-- ==== Sys2Proof/Word.lean ====
section
/-! DEFINITION. The word types of the LZ340: line bytes, the 32-bit millisecond clock (R1) and the
sixteen-bit event masks (section 11.3). -/

namespace Sys2Proof

/-- One character's eight data bits, on the mast line or the cab line. -/
abbrev Byte := BitVec 8

/-- A reading of the part's free-running millisecond clock: 32 bits, wrapping (R1). -/
abbrev Time := BitVec 32

/-- A set of event kinds: bit n stands for the kind numbered n (section 11.3). -/
abbrev Mask := BitVec 16

end Sys2Proof
end

