-- ==== Sys2Proof/Syntax.lean ====
section
/-! DEFINITION. The commands of the LZ340: one constructor per row of spec/opcode_table.json, with the
operands the row's rules name. Operands stand as they are sent, before any test of their range. -/

namespace Sys2Proof

/-- The levels of WHEEL_A and WHEEL_B (section 2.1). -/
structure WheelPair where
  a : Bool
  b : Bool
deriving DecidableEq, Repr

/-- What one coil's sense circuit shows at a check (R163): the current in milliamperes, and whether the
sense current of an undriven coil finds a path. -/
structure CoilSense where
  current : Nat
  path : Bool
deriving DecidableEq, Repr

/-- What the Output Stage's inputs show at one sampling (R163 to R165): STROKE_IN and TILT_IN in
microvolts, and both coils. -/
structure Readings where
  stroke : Nat
  tilt : Nat
  raise : CoilSense
  lower : CoilSense
deriving DecidableEq, Repr

/-- The header of OPEN_SHEET as sent (R38): a presence mark of 0 means START_DEPTH is absent. -/
structure HeaderFields where
  name : List Byte
  depthMark : Nat
  depth : Nat
  minGrade : Nat
  shallow : Nat
  deep : Nat
  autoAdvance : Nat
deriving DecidableEq, Repr

/-- The kind and parameters of ENQUEUE as sent (R141, section 8.1). -/
inductive OpFields where
  | dig (sheet k0 entry c0Mark c0 : Nat)
  | plunge (target : Nat)
  | hold (targetMark target distance : Nat)
  | lift
  | dwell (time : Nat)
  /-- A kind code that names none of the five kinds; it implies no parameters (R187). -/
  | unknown (code : Nat)
deriving DecidableEq, Repr

/-- One command. The first operand of every request is the tag of its frame (byte 3, R183). -/
inductive Instr where
  /-- POWER_ON: the straps, the wheel levels and the first readings at the release of RESET_N. -/
  | powerOn (addr0 addr1 : Bool) (wheel : WheelPair) (first : Readings)
  /-- MAST_BYTE: the eight data bits, the parity bit and the stop bit of one character (R3). -/
  | mastByte (data : Byte) (parity stop : Bool)
  | mastGapTimerExpiry
  | strikeTake
  | gradeLoopStrike
  | benchStrike
  | tieStrike
  /-- WHEEL_TRANSITION: the pair now sampled (R24). -/
  | wheelTransition (pair : WheelPair)
  | stillnessTimerExpiry
  | beamAgeTimerExpiry
  | searchTimerExpiry
  | lostDriveTimerExpiry
  | tieTimerExpiry
  | dwellTimerExpiry
  | sampleTick (r : Readings)
  | shadowPeriodTimerExpiry
  /-- CAB_BYTE: the eight data bits and the stop bit of one character (R183, R185). -/
  | cabByte (data : Byte) (stop : Bool)
  | cabGapTimerExpiry
  | replyComplete
  | unknownKindRequest (tag kind : Nat)
  | identify (tag : Nat)
  | status (tag : Nat)
  | poll (tag : Nat)
  | readFlags (tag : Nat)
  | clearFlags (tag : Nat) (mask : Mask)
  | setEnables (tag : Nat) (mask : Mask)
  | readCounts (tag : Nat)
  | setConstant (tag id : Nat) (value : Int)
  | getConstant (tag id : Nat)
  | restart (tag : Nat)
  | openSheet (tag n : Nat) (header : HeaderFields)
  | appendSegment (tag n length : Nat) (grade : Int) (marker stopAtEnd : Nat)
  | sealSheet (tag n : Nat)
  | eraseSheet (tag n : Nat)
  | readSheet (tag n index : Nat)
  | definePlane (tag entry sigLo sigHi : Nat) (slope : Int)
  | clearPlane (tag entry : Nat)
  | readPlane (tag entry : Nat)
  | mastLine (tag setting : Nat)
  | setChainage (tag value : Nat)
  /-- ENQUEUE: opTag is the tag of the operation, the first field of the body (R183). -/
  | enqueue (tag opTag : Nat) (op : OpFields) (standing : Nat)
  | readQueue (tag : Nat)
  | softAbort (tag : Nat)
  /-- STOP, addressed or broadcast (R153, R186). -/
  | stop (broadcast : Bool) (tag : Nat)
  | resume (tag : Nat)
  | tieStart (tag entry n mode : Nat)
  | tieCommit (tag : Nat)
  | tieCancel (tag : Nat)
  | readTie (tag : Nat)
  | clearFault (tag : Nat)
  | shadowOn (tag : Nat)
  | shadowOff (tag : Nat)
  | shadowGap (tag distance : Nat)
deriving DecidableEq, Repr

end Sys2Proof
end

