-- ==== Sys2Proof/Decode.lean ====
section
/-! DEFINITION. The command a word spells by the table's bits. The opcode table gives bits for none of its rows
(log 7): the requests are spelled by whole frames of the cab line, which Machine/CabFrame.lean reads, and the
other rows are events on the pins and in the part. -/

namespace Sys2Proof

/-- No row of the table has bits, so no word spells a command (log 7). -/
def decodeTableWord (_nbits _w : Nat) : Option Instr := none

end Sys2Proof
end

