-- ==== Sys2Proof/Config.lean ====
section
/-! DEFINITION. The free values: constants with no body, so that nothing can be proved of their value.
Each is applied to the state's counter of free values drawn (State.free), which rises at each draw. -/

namespace Sys2Proof

/-- Which of the things that fall due in one sample tick is taken first, second and so on, when the
order matters: R166 says the first one taken decides and gives no order (log 8). -/
opaque Config.tickOrder : Nat → Nat

/-- The cycle count OP_DONE reports for a HOLD or DWELL that never began a cycle: R156 states none (log 9). -/
opaque Config.unstartedCycles : Nat → BitVec 16

end Sys2Proof
end

