-- ==== Sys2Proof/Machine/Arith.lean ====
section
/-! DEFINITION. The part's arithmetic (R2), the saturating count of the counters (R190), differences of
clock readings (R1), and the byte order and checks of the two lines (R7, R183). -/

namespace Sys2Proof.Machine

/-- The quotient n / d rounded half away from zero (R2), for d above 0. -/
def roundDiv (n : Int) (d : Nat) : Int :=
  if 0 ≤ n then (2 * n + d) / (2 * d) else -((2 * -n + d) / (2 * d))

/-- The quotient n / d floored (R2), for d above 0. -/
def floorDiv (n : Int) (d : Nat) : Int := n / (d : Int)

/-- A value clamped to a range (R2). -/
def clampInt (lo hi x : Int) : Int := max lo (min hi x)

/-- A value that counts one and stays at 65,535 once it has reached it (R9, R190). -/
def countOne (n : Nat) : Nat := if n < 65535 then n + 1 else n

/-- The milliseconds from an earlier clock reading to a later one (R1). -/
def elapsed (later earlier : Time) : Nat := (later - earlier).toNat

/-- The clock reading a number of milliseconds after another (R1). -/
def after (t : Time) (ms : Nat) : Time := t + BitVec.ofNat 32 ms

/-- The greatest of a list less the least; 0 for an empty list (R123, R128). -/
def spreadOf : List Int → Int
  | [] => 0
  | x :: xs => xs.foldl max x - xs.foldl min x

/-- The least and the greatest of a list, when it holds an item (R138). -/
def extremesOf : List Int → Option (Int × Int)
  | [] => none
  | x :: xs => some (xs.foldl min x, xs.foldl max x)

/-- The one's complement of the modulo-256 sum of bytes 1 to 4 of a strike frame (R7). -/
def strikeCheck (sig first last status : Byte) : Byte := ~~~(sig + first + last + status)

/-- Unsigned value of bytes sent most significant first (R183). -/
def beNat (bytes : List Byte) : Nat := bytes.foldl (fun n b => 256 * n + b.toNat) 0

/-- Two's complement value of bytes sent most significant first (R183). -/
def beInt (bytes : List Byte) : Int :=
  let n := beNat bytes
  if 2 * n < 256 ^ bytes.length then (n : Int) else (n : Int) - (256 ^ bytes.length : Nat)

/-- A number in n bytes, most significant first, in two's complement (R183). -/
def toBytes : Nat → Int → List Byte
  | 0, _ => []
  | n + 1, v => BitVec.ofInt 8 (v / (256 ^ n : Nat)) :: toBytes n v

/-- One bit of the CRC-16 of R183: polynomial 0x1021, most significant bit first. -/
def crcBit (c : BitVec 16) : BitVec 16 := if c.msb then (c <<< 1) ^^^ 0x1021#16 else c <<< 1

/-- One byte of the CRC-16 of R183. -/
def crcByte (c : BitVec 16) (b : Byte) : BitVec 16 :=
  let d := c ^^^ (b.zeroExtend 16 <<< 8)
  crcBit (crcBit (crcBit (crcBit (crcBit (crcBit (crcBit (crcBit d)))))))

/-- The CRC-16 of a run of bytes, from the initial value 0xFFFF (R183). -/
def crc16 (bytes : List Byte) : BitVec 16 := bytes.foldl crcByte 0xFFFF#16

end Sys2Proof.Machine
end

