-- ==== Sys2Proof/Machine/Constants.lean ====
section
/-! DEFINITION. The 28 machine constants of section 11.5 (R191): their ids, ranges and defaults. -/

namespace Sys2Proof.Machine

/-- The machine constants' held values. -/
structure Constants where
  mastLength : Nat
  wheelPitch : Nat
  driveMin : Nat
  driveMax : Nat
  gain : Nat
  slew : Nat
  settleCount : Nat
  holdShallowBand : Nat
  holdDeepBand : Nat
  lossTime : Nat
  coastDist : Nat
  searchDrive : Nat
  searchDist : Nat
  searchTime : Nat
  strokeTop : Nat
  strokeBottom : Nat
  coilMinRaise : Nat
  coilMinLower : Nat
  liftDrive : Nat
  pairWindow : Nat
  pairTime : Nat
  tieTolerance : Nat
  tieDist : Nat
  tieTime : Nat
  benchStrikes : Nat
  shadowSpeed : Nat
  shadowRate : Nat
  shadowPeriod : Nat
deriving DecidableEq, Repr

/-- The names of the machine constants, in the order of their ids 1 to 28. -/
inductive ConstId where
  | mastLength | wheelPitch | driveMin | driveMax | gain | slew | settleCount | holdShallowBand | holdDeepBand
  | lossTime | coastDist | searchDrive | searchDist | searchTime | strokeTop | strokeBottom | coilMinRaise
  | coilMinLower | liftDrive | pairWindow | pairTime | tieTolerance | tieDist | tieTime | benchStrikes
  | shadowSpeed | shadowRate | shadowPeriod
deriving DecidableEq, Repr

/-- The constant an id names; none outside 1 to 28 (R191). -/
def constOfId : Nat → Option ConstId
  | 1 => some .mastLength
  | 2 => some .wheelPitch
  | 3 => some .driveMin
  | 4 => some .driveMax
  | 5 => some .gain
  | 6 => some .slew
  | 7 => some .settleCount
  | 8 => some .holdShallowBand
  | 9 => some .holdDeepBand
  | 10 => some .lossTime
  | 11 => some .coastDist
  | 12 => some .searchDrive
  | 13 => some .searchDist
  | 14 => some .searchTime
  | 15 => some .strokeTop
  | 16 => some .strokeBottom
  | 17 => some .coilMinRaise
  | 18 => some .coilMinLower
  | 19 => some .liftDrive
  | 20 => some .pairWindow
  | 21 => some .pairTime
  | 22 => some .tieTolerance
  | 23 => some .tieDist
  | 24 => some .tieTime
  | 25 => some .benchStrikes
  | 26 => some .shadowSpeed
  | 27 => some .shadowRate
  | 28 => some .shadowPeriod
  | _ => none

/-- One row of the table of section 11.5: the ends of the range and the default. -/
structure ConstRow where
  lo : Nat
  hi : Nat
  default : Nat
deriving DecidableEq, Repr

/-- The table of section 11.5. -/
def constRow : ConstId → ConstRow
  | .mastLength => ⟨800, 4500, 2000⟩
  | .wheelPitch => ⟨100, 20000, 5000⟩
  | .driveMin => ⟨0, 300, 120⟩
  | .driveMax => ⟨100, 1000, 600⟩
  | .gain => ⟨1, 400, 40⟩
  | .slew => ⟨5, 1000, 25⟩
  | .settleCount => ⟨0, 50, 10⟩
  | .holdShallowBand => ⟨2, 50, 5⟩
  | .holdDeepBand => ⟨2, 80, 10⟩
  | .lossTime => ⟨200, 2000, 400⟩
  | .coastDist => ⟨0, 5000, 1000⟩
  | .searchDrive => ⟨50, 400, 150⟩
  | .searchDist => ⟨200, 5000, 1500⟩
  | .searchTime => ⟨1000, 10000, 3000⟩
  | .strokeTop => ⟨500, 1000, 980⟩
  | .strokeBottom => ⟨0, 500, 20⟩
  | .coilMinRaise => ⟨0, 500, 200⟩
  | .coilMinLower => ⟨0, 500, 200⟩
  | .liftDrive => ⟨100, 1000, 800⟩
  | .pairWindow => ⟨5, 100, 20⟩
  | .pairTime => ⟨50, 500, 250⟩
  | .tieTolerance => ⟨2, 30, 6⟩
  | .tieDist => ⟨1000, 100000, 30000⟩
  | .tieTime => ⟨10, 300, 60⟩
  | .benchStrikes => ⟨4, 16, 8⟩
  | .shadowSpeed => ⟨0, 2000, 500⟩
  | .shadowRate => ⟨10, 400, 120⟩
  | .shadowPeriod => ⟨50, 200, 100⟩

/-- The value held for a constant. -/
def getConst (k : Constants) : ConstId → Nat
  | .mastLength => k.mastLength
  | .wheelPitch => k.wheelPitch
  | .driveMin => k.driveMin
  | .driveMax => k.driveMax
  | .gain => k.gain
  | .slew => k.slew
  | .settleCount => k.settleCount
  | .holdShallowBand => k.holdShallowBand
  | .holdDeepBand => k.holdDeepBand
  | .lossTime => k.lossTime
  | .coastDist => k.coastDist
  | .searchDrive => k.searchDrive
  | .searchDist => k.searchDist
  | .searchTime => k.searchTime
  | .strokeTop => k.strokeTop
  | .strokeBottom => k.strokeBottom
  | .coilMinRaise => k.coilMinRaise
  | .coilMinLower => k.coilMinLower
  | .liftDrive => k.liftDrive
  | .pairWindow => k.pairWindow
  | .pairTime => k.pairTime
  | .tieTolerance => k.tieTolerance
  | .tieDist => k.tieDist
  | .tieTime => k.tieTime
  | .benchStrikes => k.benchStrikes
  | .shadowSpeed => k.shadowSpeed
  | .shadowRate => k.shadowRate
  | .shadowPeriod => k.shadowPeriod

/-- The constants with one of them given a new value. -/
def putConst (k : Constants) (v : Nat) : ConstId → Constants
  | .mastLength => { k with mastLength := v }
  | .wheelPitch => { k with wheelPitch := v }
  | .driveMin => { k with driveMin := v }
  | .driveMax => { k with driveMax := v }
  | .gain => { k with gain := v }
  | .slew => { k with slew := v }
  | .settleCount => { k with settleCount := v }
  | .holdShallowBand => { k with holdShallowBand := v }
  | .holdDeepBand => { k with holdDeepBand := v }
  | .lossTime => { k with lossTime := v }
  | .coastDist => { k with coastDist := v }
  | .searchDrive => { k with searchDrive := v }
  | .searchDist => { k with searchDist := v }
  | .searchTime => { k with searchTime := v }
  | .strokeTop => { k with strokeTop := v }
  | .strokeBottom => { k with strokeBottom := v }
  | .coilMinRaise => { k with coilMinRaise := v }
  | .coilMinLower => { k with coilMinLower := v }
  | .liftDrive => { k with liftDrive := v }
  | .pairWindow => { k with pairWindow := v }
  | .pairTime => { k with pairTime := v }
  | .tieTolerance => { k with tieTolerance := v }
  | .tieDist => { k with tieDist := v }
  | .tieTime => { k with tieTime := v }
  | .benchStrikes => { k with benchStrikes := v }
  | .shadowSpeed => { k with shadowSpeed := v }
  | .shadowRate => { k with shadowRate := v }
  | .shadowPeriod => { k with shadowPeriod := v }

/-- Every machine constant at its default (R194). -/
def defaultConstants : Constants where
  mastLength := (constRow .mastLength).default
  wheelPitch := (constRow .wheelPitch).default
  driveMin := (constRow .driveMin).default
  driveMax := (constRow .driveMax).default
  gain := (constRow .gain).default
  slew := (constRow .slew).default
  settleCount := (constRow .settleCount).default
  holdShallowBand := (constRow .holdShallowBand).default
  holdDeepBand := (constRow .holdDeepBand).default
  lossTime := (constRow .lossTime).default
  coastDist := (constRow .coastDist).default
  searchDrive := (constRow .searchDrive).default
  searchDist := (constRow .searchDist).default
  searchTime := (constRow .searchTime).default
  strokeTop := (constRow .strokeTop).default
  strokeBottom := (constRow .strokeBottom).default
  coilMinRaise := (constRow .coilMinRaise).default
  coilMinLower := (constRow .coilMinLower).default
  liftDrive := (constRow .liftDrive).default
  pairWindow := (constRow .pairWindow).default
  pairTime := (constRow .pairTime).default
  tieTolerance := (constRow .tieTolerance).default
  tieDist := (constRow .tieDist).default
  tieTime := (constRow .tieTime).default
  benchStrikes := (constRow .benchStrikes).default
  shadowSpeed := (constRow .shadowSpeed).default
  shadowRate := (constRow .shadowRate).default
  shadowPeriod := (constRow .shadowPeriod).default

end Sys2Proof.Machine
end

