-- ==== Sys2Proof/Machine/State.lean ====
section
/-! DEFINITION. The state of the LZ340, block by block (chapter 1 of spec/00 names the twelve blocks and
what each owns), the reply a request leaves, the reasons a step can stop, and the state at reset. -/

namespace Sys2Proof.Machine

/-! ## Strikes and planes (spec/01) -/

/-- The role of a plane entry (section 1.3). -/
inductive Role where
  | empty | standby | active | candidate | retired
deriving DecidableEq, Repr

/-- A tie: the plane's elevation Pb at the reference chainage cb (section 1.3). -/
structure Tie where
  pb : Int
  cb : Nat
deriving DecidableEq, Repr

/-- Where an accepted strike's beam fell (R13, R14): only IN_WINDOW carries a beam offset. -/
inductive Beam where
  | inWindow (offset : Int) | above | below | split
deriving DecidableEq, Repr

/-- A plane entry's last-strike record (R16); its valid mark is a function of the beam (R14). -/
structure LastStrike where
  beam : Beam
  chainage : Nat
  time : Time
deriving DecidableEq, Repr

/-- One of the eight entries of the Plane Acceptance Table (section 1.3). -/
structure PlaneEntry where
  role : Role
  sigLo : Nat
  sigHi : Nat
  slope : Int
  tie : Option Tie
  count : Nat
  matched : Bool
  last : Option LastStrike
deriving DecidableEq, Repr

/-- The values of an EMPTY entry (section 1.3). -/
def PlaneEntry.cleared : PlaneEntry :=
  { role := .empty, sigLo := 0, sigHi := 0, slope := 0, tie := none, count := 0, matched := false, last := none }

/-- A strike as the strike slot holds it: four content bytes and two stamps (R7, R8). `generated` is the
model's own mark of a strike the Shadow Model made, which R181 tells apart (log 24). -/
structure Strike where
  sig : Byte
  first : Byte
  last : Byte
  status : Byte
  chainage : Nat
  time : Time
  generated : Bool
deriving DecidableEq, Repr

/-- The mast line's frame assembler (R4 to R6): COLLECTING holds the partial frame and the time at which
its gap timer expires. -/
inductive LineRx where
  | hunting
  | collecting (bytes : List Byte) (due : Time)
deriving DecidableEq, Repr

/-- The Mast Line Receiver. -/
structure Mlr where
  lineOn : Bool
  rx : LineRx
  slot : Option Strike
deriving DecidableEq, Repr

/-- A qualified strike (R14). -/
structure QStrike where
  entry : Fin 8
  beam : Beam
  chainage : Nat
  time : Time
deriving DecidableEq, Repr

/-- The stream by which a strike reaches the Tie Engine (R125): of the CANDIDATE, or a copy of one of the
ACTIVE entry. -/
inductive TieStream where
  | candidate | active
deriving DecidableEq, Repr

/-- The Strike Qualifier: the strike it has handed to each block and the block has not finished with
(R12), and the foreign latch (R15). It is idle when none is handed. -/
structure Sq where
  toLoop : Option QStrike
  toBench : Option QStrike
  toTie : Option (TieStream × QStrike)
  foreignLatch : Bool
deriving DecidableEq, Repr

/-! ## Chainage (spec/02) -/

/-- Whether the machine stands, as the stationary detector judges (R28). -/
inductive Stillness where
  | still | moving
deriving DecidableEq, Repr

/-- The chainage source selector (R32). -/
inductive Source where
  | wheel | shadow
deriving DecidableEq, Repr

/-- The Chainage Counter. -/
structure Cc where
  pair : WheelPair
  acc : Nat
  limitLatch : Bool
  chw : Option Nat
  still : Stillness
  anchor : Nat
  stillTimer : Option Time
  source : Source
deriving DecidableEq, Repr

/-! ## Run sheets (spec/03) -/

/-- A point of note at the start of a segment (section 3.2). -/
inductive Marker where
  | none | junction | inspection | headEnd
deriving DecidableEq, Repr

/-- A sheet's header (section 3.1). -/
structure Header where
  name : List Byte
  startDepth : Option Nat
  minGrade : Nat
  shallow : Nat
  deep : Nat
  autoAdvance : Bool
deriving DecidableEq, Repr

/-- A segment record (section 3.2). -/
structure Segment where
  length : Nat
  grade : Nat
  marker : Marker
  stopAtEnd : Bool
deriving DecidableEq, Repr

/-- A sheet's state with what it holds in that state (section 3.3). -/
inductive SheetBody where
  | empty
  | opened (header : Header) (segments : List Segment)
  | sealed (header : Header) (segments : List Segment)
deriving DecidableEq, Repr

/-- One of the six sheets of the Sheet Store, with its in-use count (R45). -/
structure Sheet where
  body : SheetBody
  inUse : Nat
deriving DecidableEq, Repr

/-! ## The run context (spec/04) -/

/-- The run phase (section 4.1). -/
inductive RunPhase where
  | benching | running | segmentHold | ended | stopping
deriving DecidableEq, Repr

/-- The current segment of a run (section 4.1). -/
structure CurrentSegment where
  index : Nat
  cs : Nat
  invert : Int
  grade : Nat
  length : Nat
  marker : Marker
  stopAtEnd : Bool
deriving DecidableEq, Repr

/-- The staged slot (R53). -/
structure StagedSegment where
  index : Nat
  cs : Nat
  invert : Int
deriving DecidableEq, Repr

/-- The run context of a DIG (section 4.1). -/
structure RunCtx where
  sheet : Fin 6
  k0 : Nat
  c0 : Nat
  base : Nat
  cur : CurrentSegment
  staged : Option StagedSegment
  phase : RunPhase
  frozen : Option Nat
  unbenched : Bool
  softAborted : Bool
deriving DecidableEq, Repr

/-! ## The grade loop (spec/05 and spec/06) -/

/-- UP or DOWN: the direction of a search or of the LOST drive (R100). -/
inductive Direction where
  | up | down
deriving DecidableEq, Repr

/-- The drive of a LOST loop (R112). -/
structure LostDrive where
  dir : Direction
  level : Nat
  due : Time
deriving DecidableEq, Repr

/-- The loop state with the fields present in it (R100). COASTING and the searches also hold the time they
were entered, which BEAM_LOST reports (R116). -/
inductive LoopState where
  | acquiring
  | tracking (beamAgeDue : Time)
  | coasting (start : Nat) (since : Time)
  | searching (dir : Direction) (level : Nat) (start : Nat) (due : Time) (flips : Nat) (since : Time)
  | lost (drive : Option LostDrive)
deriving DecidableEq, Repr

/-- The names of the loop states, as events carry them. -/
inductive LoopName where
  | acquiring | tracking | coasting | searchUp | searchDown | lost
deriving DecidableEq, Repr

/-- The kinds of operation that have a loop context (R71). -/
inductive LoopKind where
  | dig | hold | plunge
deriving DecidableEq, Repr

/-- The constant target of a loop context (R71, R80, R81): a DIG has none. -/
inductive ConstTarget where
  | absent | given (depth : Int) | latched (depth : Int) | unlatched
deriving DecidableEq, Repr

/-- The outcome of the three-way decision (R86), or NONE for a strike without a target (R79). -/
inductive Decision where
  | raise | lower | hold | none
deriving DecidableEq, Repr

/-- The stroke limit a decision record marks (R92, R93). -/
inductive LimitMark where
  | none | bottom | top
deriving DecidableEq, Repr

/-- What a strike with a target adds to its decision record (R96). -/
structure ErrorPart where
  target : Int
  error : Int
  filtered : Int
  count : Nat
deriving DecidableEq, Repr

/-- What a strike of a DIG that has a target adds: ct, P(ct) and the design invert there (R96). -/
structure LinePart where
  ct : Nat
  plane : Int
  invert : Int
deriving DecidableEq, Repr

/-- The decision record (R96). -/
structure DecisionRecord where
  chainage : Nat
  tilt : Int
  drop : Nat
  depth : Int
  line : Option LinePart
  errors : Option ErrorPart
  decision : Decision
  wanted : Int
  slewed : Int
  final : Int
  settle : Nat
  reverseHold : Bool
  limit : LimitMark
deriving DecidableEq, Repr

/-- The loop context (R71). -/
structure LoopCtx where
  kind : LoopKind
  state : LoopState
  shallow : Nat
  deep : Nat
  window : List Int
  settle : Nat
  holdCount : Nat
  target : ConstTarget
  record : Option DecisionRecord
deriving DecidableEq, Repr

/-- The Grade Loop. -/
structure Gl where
  v : Int
  loop : Option LoopCtx
deriving DecidableEq, Repr

/-! ## Ties (spec/07) -/

/-- The mode of a plane tie (R124). -/
inductive TieMode where
  | auto | confirm
deriving DecidableEq, Repr

/-- A strike waiting in one of the tie's two slots (R118). -/
structure SlotStrike where
  depth : Int
  chainage : Nat
  time : Time
deriving DecidableEq, Repr

/-- A pair record: a chainage and a normalised estimate (R127). -/
structure TiePair where
  chainage : Nat
  estimate : Int
deriving DecidableEq, Repr

/-- The result a WAITING tie holds (R128). -/
structure TieResult where
  tie : Tie
  spread : Int
deriving DecidableEq, Repr

/-- The tie record (R118). Without a result the tie state is COLLECTING, with one it is WAITING. -/
structure TieRecord where
  candidate : Fin 8
  n : Nat
  mode : TieMode
  startChainage : Nat
  startTime : Time
  timer : Option Time
  activeSlot : Option SlotStrike
  candidateSlot : Option SlotStrike
  cRef : Option Nat
  pairs : List TiePair
  result : Option TieResult
deriving DecidableEq, Repr

/-- The tie state (R118). -/
inductive TieState where
  | idle | collecting | waiting
deriving DecidableEq, Repr

/-- The bench collector (R118). -/
structure Bench where
  sampling : Bool
  samples : List Int
  reference : Option Nat
  moveRestarts : Nat
  spreadRestarts : Nat
deriving DecidableEq, Repr

/-- Why a plane tie ended without transfer (R134). -/
inductive TieReason where
  | spread | range | distance | time | cancelled | stopped | fault | rebased
deriving DecidableEq, Repr

/-- How the most recent plane tie ended (R118). -/
inductive TieOutcome where
  | transferred (entry : Fin 8) (tie : Tie) (spread : Int)
  | failed (entry : Fin 8) (reason : TieReason) (pairs : Nat) (spread : Option Int)
deriving DecidableEq, Repr

/-- The Tie Engine. -/
structure Te where
  tie : Option TieRecord
  bench : Option Bench
  last : Option TieOutcome
deriving DecidableEq, Repr

/-! ## The operation queue (spec/08) -/

/-- The kinds of operation, coded 0 to 4 in this order (R183). -/
inductive OpKind where
  | dig | plunge | hold | lift | dwell
deriving DecidableEq, Repr

/-- An operation's kind with its parameters (section 8.1). -/
inductive OpParams where
  | dig (sheet : Fin 6) (k0 : Nat) (entry : Fin 8) (c0 : Option Nat)
  | plunge (target : Nat)
  | hold (target : Option Nat) (distance : Nat)
  | lift
  | dwell (time : Nat)
deriving DecidableEq, Repr

/-- What an operation record holds while it executes: its start time, the cycle now running (0 until the
first begins) and where the cycle began, a chainage for HOLD and a time for DWELL (section 8.1). -/
structure RunInfo where
  startTime : Time
  cycles : Nat
  cycleChainage : Nat
  cycleTime : Time
deriving DecidableEq, Repr

/-- WAITING or EXECUTING (section 8.1). -/
inductive OpState where
  | waiting
  | executing (info : RunInfo)
deriving DecidableEq, Repr

/-- An operation record (section 8.1). -/
structure Operation where
  tag : Nat
  params : OpParams
  standing : Bool
  state : OpState
deriving DecidableEq, Repr

/-- The sequencer state (section 8.1). -/
inductive SeqState where
  | idle | executing | faulted
deriving DecidableEq, Repr

/-- The pause-reason set (section 8.10): each reason present or absent. -/
structure PauseSet where
  beam : Bool
  resumeWait : Bool
  segmentHold : Bool
  reach : Bool
  stopping : Bool
  bench : Bool
deriving DecidableEq, Repr

/-- The set with no reason in it. -/
def PauseSet.none : PauseSet :=
  { beam := false, resumeWait := false, segmentHold := false, reach := false, stopping := false, bench := false }

/-- The outcomes of an operation (R155). -/
inductive OpOutcome where
  | done | aborted | flushed | failed
deriving DecidableEq, Repr

/-- The reasons of an outcome (R155). -/
inductive OpReason where
  | runEnd | settled | distance | top | time | softAbort | stop | restart | fault
  | badSegment | planeRole | tieBusy | range | noPlane
deriving DecidableEq, Repr

/-- The Operation Queue. -/
structure Oq where
  ops : List Operation
  seq : SeqState
  pause : PauseSet
  dwellTimer : Option Time
deriving DecidableEq, Repr

/-! ## The output stage (spec/09) -/

/-- The result of a coil's check (R163); `unread` before the first. -/
inductive CoilResult where
  | unread | short | broken | good | noResult
deriving DecidableEq, Repr

/-- A coil's open count and the result of its latest check. -/
structure Coil where
  openCount : Nat
  latest : CoilResult
deriving DecidableEq, Repr

/-- The fault causes (R163, R164). -/
inductive FaultCause where
  | coilOpenRaise | coilShortRaise | coilOpenLower | coilShortLower | strokeRange
deriving DecidableEq, Repr

/-- The fault record (R166): the reading is the coil current in milliamperes for a coil cause, and the
out-of-range stroke reading for STROKE_RANGE. -/
structure FaultRecord where
  cause : FaultCause
  time : Time
  chainage : Nat
  v : Int
  reading : Int
deriving DecidableEq, Repr

/-- The health set (R167). -/
structure Health where
  openRaise : Bool
  openLower : Bool
  strokeRange : Bool
deriving DecidableEq, Repr

/-- The Output Stage. -/
structure Os where
  raiseDuty : Nat
  lowerDuty : Nat
  raise : Coil
  lower : Coil
  stroke : Nat
  strokeOk : Bool
  tilt : Int
  faulted : Bool
  record : Option FaultRecord
  health : Health
  permit : Bool
  pin : Bool
deriving DecidableEq, Repr

/-! ## The shadow model (spec/10) -/

/-- A gap in the generated strikes (R180). -/
structure Gap where
  start : Nat
  distance : Nat
deriving DecidableEq, Repr

/-- The Shadow Model while the shadow mark is ON. `drive` is V as last handed to the model (R177), and
`handed` the simulated stroke as last handed on at a sample tick (R164, log 14). -/
structure Shadow where
  setAside : Nat
  stroke : Nat
  ds : Int
  mast : Nat
  due : Time
  gap : Option Gap
  drive : Int
  handed : Nat
deriving DecidableEq, Repr

/-! ## Events and the cab line port (spec/11) -/

/-- The two counters whose multiples of 16 fire LINE (R9). -/
inductive LineCounter where
  | overrun | damaged
deriving DecidableEq, Repr

/-- The end of the chainage range reached (R26). -/
inductive RangeEnd where
  | low | high
deriving DecidableEq, Repr

/-- The causes of the LINE event (section 11.3). -/
inductive LineCause where
  | mastLine (counter : LineCounter)
  | foreign
  | chainageLimit (which : RangeEnd)
deriving DecidableEq, Repr

/-- Why a run halted at a segment end (R59). -/
inductive SegmentEndCause where
  | stopAtEnd | noAdvance
deriving DecidableEq, Repr

/-- The state a search was entered from, as BEAM_SEARCH reports it (R116). -/
inductive SearchFrom where
  | acquiring | tracking | coasting | transfer
deriving DecidableEq, Repr

/-- Why the loop became LOST (R111). -/
inductive LostCause where
  | coast | flips | distance | time
deriving DecidableEq, Repr

/-- Whose computation clamped the tilt (R74). -/
inductive TiltUser where
  | gradeLoop | bench | tie
deriving DecidableEq, Repr

/-- The sixteen events with the contents of their records (section 11.3, R189). -/
inductive Event where
  | segmentChange (index start : Nat) (invert : Int)
  | segmentEnd (index frozen : Nat) (cause : SegmentEndCause)
  | marker (marker : Marker) (index point : Nat)
  | runEnd (index endChainage : Nat) (invert : Int)
  | benchDone (entry : Fin 8) (tie : Tie) (spread : Int) (samples moves spreads : Nat)
  | beamSearch (dir : Direction) (left : SearchFrom) (level : Nat)
  | beamLost (cause : LostCause) (left : LoopName) (flips : Nat) (advance : Int) (elapsed : Time)
  | beamRegained (left : LoopName) (resumeAwaited : Bool) (depth : Int)
  | tieDone (entry : Fin 8) (tie : Tie) (spread : Int) (n : Nat) (mode : TieMode)
  | tieFailed (entry : Fin 8) (reason : TieReason) (pairs : Nat) (spread : Option Int)
  | transfer (entry retired : Fin 8) (tie : Tie) (loop : Option LoopName)
  | opDone (tag : Nat) (kind : OpKind) (outcome : OpOutcome) (reason : OpReason) (cycles left : Nat)
  | reachLimit (stroke : Nat) (cut : Int)
  | tiltClamp (sample clamped : Int) (user : TiltUser)
  | fault (record : FaultRecord)
  | line (cause : LineCause)
deriving DecidableEq, Repr

/-- A report record (R189). -/
structure Report where
  event : Event
  seqNo : BitVec 16
  time : Time
  chainage : Nat
deriving DecidableEq, Repr

/-- The ten counters (R190). -/
structure Counters where
  overrun : Nat
  damaged : Nat
  noise : Nat
  rejected : Nat
  foreign : Nat
  shadowMasked : Nat
  wheelFault : Nat
  cabDropped : Nat
  reportLost : Nat
  benchRestart : Nat
deriving DecidableEq, Repr

/-- All ten counters at 0. -/
def Counters.zero : Counters :=
  { overrun := 0, damaged := 0, noise := 0, rejected := 0, foreign := 0, shadowMasked := 0, wheelFault := 0,
    cabDropped := 0, reportLost := 0, benchRestart := 0 }

/-- The requests of the catalogue (section 11.2). -/
inductive Request where
  | identify | status | poll | readFlags | clearFlags | setEnables | readCounts | setConstant | getConstant
  | restart | openSheet | appendSegment | sealSheet | eraseSheet | readSheet | definePlane | clearPlane
  | readPlane | mastLine | setChainage | enqueue | readQueue | softAbort | stop | resume | tieStart
  | tieCommit | tieCancel | readTie | clearFault | shadowOn | shadowOff | shadowGap
deriving DecidableEq, Repr

/-- The result codes, coded 0 to 9 in this order (section 11.2). -/
inductive ResultCode where
  | ok | clamped | badKind | badLength | badValue | state | busy | full | overlap | faulted
deriving DecidableEq, Repr

/-- WAITING or EXECUTING, as a reply shows it (section 8.1). -/
inductive OpStatus where
  | waiting | executing
deriving DecidableEq, Repr

/-- The executing operation as STATUS shows it (R192). -/
structure StatusOp where
  kind : OpKind
  tag : Nat
  state : OpStatus
  startTime : Time
deriving DecidableEq, Repr

/-- The run context as STATUS shows it (R50): the sheet, k0, c0, the base and the run phase, the current segment's
index, start chainage, start invert and end chainage, the staged slot, and the frozen chainage. -/
structure StatusRun where
  sheet : Fin 6
  k0 : Nat
  c0 : Nat
  base : Nat
  phase : RunPhase
  index : Nat
  start : Nat
  invert : Int
  finish : Nat
  staged : Option StagedSegment
  frozen : Option Nat
deriving DecidableEq, Repr

/-- The loop state as STATUS shows it, with each companion field present in it (R100). -/
inductive StatusLoopState where
  | acquiring
  | tracking (beamAgeDue : Time)
  | coasting (start : Nat)
  | searching (dir : Direction) (level start : Nat) (due : Time) (flips : Nat)
  | lost (drive : Option LostDrive)
deriving DecidableEq, Repr

/-- The constant target as STATUS shows it: with its value and the mark latched (R80). -/
structure StatusTarget where
  depth : Int
  latched : Bool
deriving DecidableEq, Repr

/-- The loop context as STATUS shows it (R71, R192): the hold count for a PLUNGE alone, the target absent for a DIG
and while unlatched (R80), and the decision record (R96). -/
structure StatusLoop where
  kind : LoopKind
  state : StatusLoopState
  shallow : Nat
  deep : Nat
  window : List Int
  settle : Nat
  holdCount : Option Nat
  target : Option StatusTarget
  record : Option DecisionRecord
deriving DecidableEq, Repr

/-- The shadow model as STATUS shows it (chapter 10): σ, Ds, and the gap with the distance run of it (R180). -/
structure StatusShadow where
  stroke : Nat
  ds : Int
  gap : Option (Gap × Nat)
deriving DecidableEq, Repr

/-- The snapshot STATUS carries (R192). -/
structure StatusReply where
  faulted : Bool
  health : Health
  record : Option FaultRecord
  seq : SeqState
  op : Option StatusOp
  pause : PauseSet
  v : Int
  raiseDuty : Nat
  lowerDuty : Nat
  permit : Bool
  pin : Bool
  stroke : Nat
  tilt : Int
  chainage : Nat
  source : Source
  chw : Option Nat
  still : Stillness
  run : Option StatusRun
  loop : Option StatusLoop
  tieState : TieState
  shadow : Option StatusShadow
  lineOn : Bool
  flags : Mask
  reports : Nat
deriving DecidableEq, Repr

/-- What READ_QUEUE adds for the executing operation (R158). -/
inductive QueueDetail where
  | dig (c0 : Nat) (softAborted : Bool)
  | plunge (holdCount : Nat)
  | hold (cycles cycleStart advance : Nat) (target : Option Int)
  | dwell (cycles : Nat) (left : Time)
  | lift (stroke : Nat)
deriving DecidableEq, Repr

/-- One operation of a READ_QUEUE reply (R158); `running` holds its start time, the milliseconds since,
and what its kind adds, while it executes. -/
structure QueueItem where
  position : Nat
  tag : Nat
  params : OpParams
  standing : Bool
  running : Option (Time × Time × QueueDetail)
deriving DecidableEq, Repr

/-- The reply to READ_QUEUE (R158). -/
structure QueueReply where
  seq : SeqState
  count : Nat
  pause : PauseSet
  items : List QueueItem
deriving DecidableEq, Repr

/-- What READ_TIE carries while COLLECTING or WAITING (R138). -/
structure TieProgress where
  candidate : Fin 8
  n : Nat
  mode : TieMode
  startChainage : Nat
  since : Time
  advance : Nat
  cRef : Option Nat
  pairs : Nat
  extremes : Option (Int × Int)
  activeSlot : Option Nat
  candidateSlot : Option Nat
  result : Option TieResult
deriving DecidableEq, Repr

/-- What READ_TIE carries while a bench collector exists (R138). -/
structure BenchProgress where
  sampling : Bool
  count : Nat
  extremes : Option (Int × Int)
  reference : Option Nat
  moveRestarts : Nat
  spreadRestarts : Nat
deriving DecidableEq, Repr

/-- The reply to READ_TIE (R138). -/
structure TieReply where
  state : TieState
  progress : Option TieProgress
  bench : Option BenchProgress
  last : Option TieOutcome
deriving DecidableEq, Repr

/-- The state of a sheet as READ_SHEET shows it (R43). -/
inductive SheetState where
  | empty | opened | sealed
deriving DecidableEq, Repr

/-- The contents of a reply beyond its result code, as the owning rules list them. -/
inductive Contents where
  | none
  | identify (revision address : Nat) (elapsed : Time)
  | status (r : StatusReply)
  | poll (record : Option Report) (left : Nat)
  | flags (flags enables : Mask)
  | cleared (flags : Mask)
  | counts (c : Counters)
  | constant (id : ConstId) (value : Nat)
  | constantRow (id : ConstId) (value : Nat) (row : ConstRow)
  | appended (index count total : Nat)
  | sealedSheet (count total rise : Nat)
  | sheet (state : SheetState) (header : Option Header) (count total rise inUse : Nat)
  | segment (segment : Segment) (offset riseBefore rise : Nat)
  | plane (entry : PlaneEntry)
  | enqueued (position count : Nat)
  | queue (r : QueueReply)
  | resumed (exchanged waitRemoved : Bool)
  | tie (r : TieReply)
deriving DecidableEq, Repr

/-- A reply: the request's kind code and tag, the result code and the contents (R187). -/
structure Reply where
  kind : Nat
  tag : Nat
  result : ResultCode
  contents : Contents
deriving DecidableEq, Repr

/-- A request received as a good frame and not yet taken (R186, R187): its kind code and tag, whether it came as a
broadcast, and the command its body spells. -/
structure Received where
  kind : Nat
  tag : Nat
  broadcast : Bool
  command : Instr
deriving DecidableEq, Repr

/-- The Cab Line Port. -/
structure Clp where
  address : Nat
  rx : LineRx
  held : Bool
  inHand : List Received
  reply : Option Reply
  flags : Mask
  enables : Mask
  reports : List Report
  seqNo : BitVec 16
  counters : Counters
  consts : Constants
deriving DecidableEq, Repr

/-! ## The whole part -/

/-- The state of the LZ340. `free` and `pending` are the model's own: how many free values have been drawn
(log 25) and the commands that wait, first in, first out. -/
structure State where
  clock : Time
  mlr : Mlr
  sq : Sq
  pat : Vector PlaneEntry 8
  cc : Cc
  ss : Vector Sheet 6
  lt : Option RunCtx
  gl : Gl
  te : Te
  oq : Oq
  os : Os
  sm : Option Shadow
  clp : Clp
  free : Nat
  pending : List Instr
deriving DecidableEq, Repr

/-- The reasons a step can stop with a fault: none. Every command has an effect in every state of the part;
its FAULTED state (R166) is a state it goes on from. Nothing raises a fault, which is safe: no claim of
completion is lost and no behaviour is added. -/
inductive Fault where
deriving DecidableEq, Repr

/-- The reasons a step can be refused. -/
inductive Refusal where
  /-- Raised by an arm of `exec` whose command has no meaning yet, naming its row of the opcode table.
  Safe: the model stops where the part goes on. No arm raises it now. -/
  | notModelled (mnemonic : String)
deriving DecidableEq, Repr

/-- The Sheet Store after power-on: every sheet EMPTY (R48). -/
def emptySheets : Vector Sheet 6 :=
  let e : Sheet := { body := .empty, inUse := 0 }
  #v[e, e, e, e, e, e]

/-- The Plane Acceptance Table after power-on: every entry EMPTY (R22). -/
def emptyPlanes : Vector PlaneEntry 8 :=
  let e := PlaneEntry.cleared
  #v[e, e, e, e, e, e, e, e]

/-- The part right after power-on and before its first samples (R22, R33, R48, R50, R98, R117, R139, R159,
R171, R182, R194). The straps and the wheel levels, which the spec takes from the pins, are both 0 (DESIGN
CHOICE, unsafe: logs 5 and 6); POWER_ON carries them. -/
def State.reset : State where
  clock := 0
  mlr := { lineOn := true, rx := .hunting, slot := none }
  sq := { toLoop := none, toBench := none, toTie := none, foreignLatch := false }
  pat := emptyPlanes
  cc := { pair := { a := false, b := false }, acc := 0, limitLatch := false, chw := none, still := .moving,
          anchor := 0, stillTimer := some 1000, source := .wheel }
  ss := emptySheets
  lt := none
  gl := { v := 0, loop := none }
  te := { tie := none, bench := none, last := none }
  oq := { ops := [], seq := .idle, pause := .none, dwellTimer := none }
  os := { raiseDuty := 0, lowerDuty := 0, raise := { openCount := 0, latest := .unread },
          lower := { openCount := 0, latest := .unread }, stroke := 0, strokeOk := true, tilt := 0,
          faulted := false, record := none,
          health := { openRaise := false, openLower := false, strokeRange := false },
          permit := false, pin := false }
  sm := none
  clp := { address := 0, rx := .hunting, held := false, inHand := [], reply := none, flags := 0, enables := 0,
           reports := [], seqNo := 0, counters := .zero, consts := defaultConstants }
  free := 0
  pending := []

end Sys2Proof.Machine
end

