-- ==== Sys2Proof/Machine/Flags.lean ====
section
/-! DEFINITION. Event flags, enables, the report queue and the counters: what every block does when it
fires an event or counts an occurrence (R9, R188 to R190). -/

namespace Sys2Proof.Machine

/-- The chainage: the whole millimetres of the accumulator (R25). -/
def chainage (s : State) : Nat := s.cc.acc / 1000

/-- The number of an event's kind (section 11.3). -/
def eventNumber : Event → Nat
  | .segmentChange .. => 0
  | .segmentEnd .. => 1
  | .marker .. => 2
  | .runEnd .. => 3
  | .benchDone .. => 4
  | .beamSearch .. => 5
  | .beamLost .. => 6
  | .beamRegained .. => 7
  | .tieDone .. => 8
  | .tieFailed .. => 9
  | .transfer .. => 10
  | .opDone .. => 11
  | .reachLimit .. => 12
  | .tiltClamp .. => 13
  | .fault .. => 14
  | .line .. => 15

/-- The number of the LINE event, whose flag the foreign latch follows (R15). -/
def lineNumber : Nat := 15

/-- The mask naming one kind (section 11.3). -/
def kindMask (n : Nat) : Mask := 1#16 <<< n

/-- Whether a mask names the kind numbered n (section 11.3). -/
def inMask (m : Mask) (n : Nat) : Bool := m.getLsbD n

/-- The report queue's capacity (R189). -/
def reportCapacity : Nat := 8

/-- Offer a record to the report queue (R189): appended with the sequence counter's value, which then
rises by one and wraps, or dropped at a full queue with REPORT_LOST. -/
def offerReport (e : Event) (time : Time) (chain : Nat) (c : Clp) : Clp :=
  if c.reports.length < reportCapacity then
    { c with reports := c.reports ++ [{ event := e, seqNo := c.seqNo, time := time, chainage := chain }],
             seqNo := c.seqNo + 1 }
  else { c with counters := { c.counters with reportLost := countOne c.counters.reportLost } }

/-- Fire an event in the port (R188): its flag is set, and a record is offered when its enable is set. -/
def fireIn (e : Event) (time : Time) (chain : Nat) (c : Clp) : Clp :=
  let c' := { c with flags := c.flags ||| kindMask (eventNumber e) }
  if inMask c.enables (eventNumber e) then offerReport e time chain c' else c'

/-- Fire an event at the present time and chainage (R188, R189). -/
def fire (e : Event) (s : State) : State :=
  { s with clp := fireIn e s.clock (chainage s) s.clp }

/-- The ten counters changed by a function. -/
def withCounters (f : Counters → Counters) (s : State) : State :=
  { s with clp := { s.clp with counters := f s.clp.counters } }

/-- NOISE counts one (R4). -/
def countNoise : State → State := withCounters fun c => { c with noise := countOne c.noise }

/-- REJECTED counts one (R13). -/
def countRejected : State → State := withCounters fun c => { c with rejected := countOne c.rejected }

/-- FOREIGN counts one (R15). -/
def countForeign : State → State := withCounters fun c => { c with foreign := countOne c.foreign }

/-- SHADOW_MASKED counts one (R10). -/
def countShadowMasked : State → State :=
  withCounters fun c => { c with shadowMasked := countOne c.shadowMasked }

/-- WHEEL_FAULT counts one (R24). -/
def countWheelFault : State → State := withCounters fun c => { c with wheelFault := countOne c.wheelFault }

/-- CAB_DROPPED counts one (R185). -/
def countCabDropped : State → State := withCounters fun c => { c with cabDropped := countOne c.cabDropped }

/-- BENCH_RESTART counts one (R122, R123). -/
def countBenchRestart : State → State :=
  withCounters fun c => { c with benchRestart := countOne c.benchRestart }

/-- LINE fires with cause MAST_LINE when a count that has just risen is a multiple of 16 (R9). -/
def fireLineAt (which : LineCounter) (old new : Nat) (s : State) : State :=
  if new ≠ old ∧ new % 16 = 0 then fire (.line (.mastLine which)) s else s

/-- DAMAGED counts one, firing LINE at a multiple of 16 (R5 to R7, R9). -/
def countDamaged (s : State) : State :=
  let n := s.clp.counters.damaged
  fireLineAt .damaged n (countOne n) (withCounters (fun c => { c with damaged := countOne c.damaged }) s)

/-- OVERRUN counts one, firing LINE at a multiple of 16 (R8, R9). -/
def countOverrun (s : State) : State :=
  let n := s.clp.counters.overrun
  fireLineAt .overrun n (countOne n) (withCounters (fun c => { c with overrun := countOne c.overrun }) s)

end Sys2Proof.Machine
end

