-- ==== Sys2Proof/Machine/Operands.lean ====
section
/-! DEFINITION. How operands are read: sheet and entry numbers, coded values, header, segment and operation
parameters with their ranges, line characters, and the conversions of the two analogue inputs. -/

namespace Sys2Proof.Machine

/-- The sheet a number names; none outside 1 to 6 (section 3.3). -/
def sheetOf (n : Nat) : Option (Fin 6) :=
  if h : 1 ≤ n ∧ n ≤ 6 then some ⟨n - 1, by omega⟩ else none

/-- The entry a number names; none above 7 (R19 to R21, R124). -/
def entryOf (n : Nat) : Option (Fin 8) := if h : n < 8 then some ⟨n, h⟩ else none

/-- A yes-or-no byte or a mark: 0 and 1 alone are coded (R183). -/
def markOf : Nat → Option Bool
  | 0 => some false
  | 1 => some true
  | _ => none

/-- The marker codes of APPEND_SEGMENT (R39). -/
def markerOf : Nat → Option Marker
  | 0 => some .none
  | 1 => some .junction
  | 2 => some .inspection
  | 3 => some .headEnd
  | _ => none

/-- The tie modes of TIE_START (R124). -/
def tieModeOf : Nat → Option TieMode
  | 0 => some .auto
  | 1 => some .confirm
  | _ => none

/-- The lie of a value in a range, ends included. -/
def inRange (lo hi x : Nat) : Bool := decide (lo ≤ x) && decide (x ≤ hi)

/-- A character a sheet's name may hold (section 3.1). -/
def nameChar (b : Byte) : Bool := inRange 0x20 0x7E b.toNat

/-- The header OPEN_SHEET carries, or none when a value lies outside its range (R38 test 2). START_DEPTH
is not tested when its presence mark is 0. -/
def headerOf (f : HeaderFields) : Option Header :=
  match markOf f.depthMark, markOf f.autoAdvance with
  | some present, some auto =>
    if f.name.length ≤ 8 && f.name.all nameChar && (!present || inRange 300 4500 f.depth)
        && inRange 0 500 f.minGrade && inRange 2 50 f.shallow && inRange 2 80 f.deep then
      some { name := f.name, startDepth := if present then some f.depth else none, minGrade := f.minGrade,
             shallow := f.shallow, deep := f.deep, autoAdvance := auto }
    else none
  | _, _ => none

/-- The segment APPEND_SEGMENT carries, or none when a value cannot be held in a sheet of this MIN_GRADE
and total length (R40). -/
def segmentOf (minGrade total : Nat) (length : Nat) (grade : Int) (marker stopAtEnd : Nat) : Option Segment :=
  match markerOf marker, markOf stopAtEnd with
  | some m, some stop =>
    if inRange 1000 500000 length && decide ((minGrade : Int) ≤ grade) && decide (grade ≤ 5000)
        && decide (total + length ≤ 999999) then
      some { length := length, grade := grade.toNat, marker := m, stopAtEnd := stop }
    else none
  | _, _ => none

/-- An optional parameter: absent with its presence mark 0, tested against its range with mark 1, and
refused with any other mark (R141, R187). An absent value is not tested (log 29). -/
def optionalOf (mark lo hi value : Nat) : Option (Option Nat) :=
  match markOf mark with
  | some false => some none
  | some true => if inRange lo hi value then some (some value) else none
  | none => none

/-- The kind and parameters ENQUEUE carries, or none when the kind is not coded or a parameter lies outside
its range (R141 test 1, section 8.1). -/
def opParamsOf : OpFields → Option OpParams
  | .dig sheet k0 entry mark c0 =>
    match sheetOf sheet, entryOf entry, optionalOf mark 0 999999 c0 with
    | some n, some e, some c => if k0 ≤ 19 then some (.dig n k0 e c) else none
    | _, _, _ => none
  | .plunge target => if inRange 300 4595 target then some (.plunge target) else none
  | .hold mark target distance =>
    match optionalOf mark 300 4595 target with
    | some t => if inRange 100 999999 distance then some (.hold t distance) else none
    | none => none
  | .lift => some .lift
  | .dwell time => if inRange 100 60000 time then some (.dwell time) else none
  | .unknown _ => none

/-- Whether a kind may stand (section 8.1): HOLD and DWELL alone. -/
def mayStand : OpParams → Bool
  | .hold .. => true
  | .dwell .. => true
  | _ => false

/-- The operation ENQUEUE carries, WAITING, or none for BAD_VALUE (R141 test 1). -/
def operationOf (tag : Nat) (f : OpFields) (standing : Nat) : Option Operation :=
  match opParamsOf f, markOf standing with
  | some p, some st =>
    if st && !mayStand p then none else some { tag := tag, params := p, standing := st, state := .waiting }
  | _, _ => none

/-- The kind of an operation. -/
def kindOf : OpParams → OpKind
  | .dig .. => .dig
  | .plunge .. => .plunge
  | .hold .. => .hold
  | .lift => .lift
  | .dwell .. => .dwell

/-- The number of ones among eight data bits. -/
def onesOf (b : Byte) : Nat := (List.range 8).countP fun i => b.getLsbD i

/-- The parity mark of a mast-line character: the data bits and the parity bit together hold an odd number
of ones (R3). -/
def parityMark (data : Byte) (parity : Bool) : Bool := (onesOf data + parity.toNat) % 2 == 1

/-- The framing mark of a character: its stop bit was sampled low (R3, R185). -/
def framingMark (stop : Bool) : Bool := !stop

/-- A mast-line character with either mark set (R3). -/
def marked (data : Byte) (parity stop : Bool) : Bool := parityMark data parity || framingMark stop

/-- The reading of STROKE_IN in per mille (R164): 0.5 V to 2.5 V reads 0 to 1000, rounded, and the converter
covers 0.4 V to 2.6 V, that is −50 to +1050; a voltage beyond reads as the end (log 10). -/
def strokeReading (microvolts : Nat) : Int :=
  clampInt (-50) 1050 (roundDiv ((microvolts : Int) - 500000) 2000)

/-- The tilt sample in hundredths of a degree (R165): 0.5 V to 2.5 V gives −3000 to +3000, rounded, and a
reading beyond is held at the end. -/
def tiltReading (microvolts : Nat) : Int :=
  clampInt (-3000) 3000 (roundDiv (3 * ((microvolts : Int) - 1500000)) 1000)

/-- The node address of the straps, ADDR0 the low bit (R184). -/
def strapAddress (addr0 addr1 : Bool) : Nat := addr0.toNat + 2 * addr1.toNat

end Sys2Proof.Machine
end

