-- ==== Sys2Proof/Machine/Ops.lean ====
section
/-! DEFINITION. The shared operations: reading and changing each block's state, handing on the drive level,
forming the permit, setting the chainage, ending a plane tie, and answering a request. -/

namespace Sys2Proof.Machine

/-! ## Planes -/

/-- The indices of the Plane Acceptance Table's entries. -/
def entryIndices : List (Fin 8) := [0, 1, 2, 3, 4, 5, 6, 7]

/-- One entry of the Plane Acceptance Table. -/
def entryAt (s : State) (i : Fin 8) : PlaneEntry := s.pat[i.val]

/-- One entry changed by a function. -/
def modifyEntry (i : Fin 8) (f : PlaneEntry → PlaneEntry) (s : State) : State :=
  { s with pat := s.pat.set i.val (f s.pat[i.val]) }

/-- Every entry changed by a function (R23). -/
def mapEntries (f : PlaneEntry → PlaneEntry) (t : Vector PlaneEntry 8) : Vector PlaneEntry 8 :=
  #v[f t[0], f t[1], f t[2], f t[3], f t[4], f t[5], f t[6], f t[7]]

/-- The entry in the ACTIVE role (R18: at most one). -/
def activeEntry (s : State) : Option (Fin 8) := entryIndices.find? fun i => (entryAt s i).role == .active

/-- Two signature windows overlap (R18). -/
def windowsOverlap (lo hi lo' hi' : Nat) : Bool := decide (lo ≤ hi') && decide (lo' ≤ hi)

/-- An entry that is not EMPTY matches a signature within its window (R15). -/
def matchesSig (e : PlaneEntry) (sig : Nat) : Bool :=
  e.role != .empty && decide (e.sigLo ≤ sig) && decide (sig ≤ e.sigHi)

/-- The entry a signature matches (R15). -/
def matchingEntry (s : State) (sig : Nat) : Option (Fin 8) :=
  entryIndices.find? fun i => matchesSig (entryAt s i) sig

/-- The valid mark of a strike (R14). -/
def beamValid : Beam → Bool
  | .split => false
  | _ => true

/-- The beam offset of a strike, present for IN_WINDOW only (R14). -/
def beamOffset : Beam → Option Int
  | .inWindow b => some b
  | _ => none

/-! ## Sheets -/

/-- One sheet of the Sheet Store. -/
def sheetAt (s : State) (n : Fin 6) : Sheet := s.ss[n.val]

/-- One sheet changed by a function. -/
def modifySheet (n : Fin 6) (f : Sheet → Sheet) (s : State) : State :=
  { s with ss := s.ss.set n.val (f s.ss[n.val]) }

/-- A sheet's segments, none while EMPTY. -/
def segmentsOf : SheetBody → List Segment
  | .empty => []
  | .opened _ l => l
  | .sealed _ l => l

/-- A sheet's header, present while OPEN or SEALED. -/
def headerIn : SheetBody → Option Header
  | .empty => none
  | .opened h _ => some h
  | .sealed h _ => some h

/-- Whether a sheet is SEALED. -/
def isSealed : SheetBody → Bool
  | .sealed _ _ => true
  | _ => false

/-- The rise of a segment, round(g × length / 100,000) (R36). -/
def riseOf (grade length : Nat) : Nat := (roundDiv ((grade * length : Nat) : Int) 100000).toNat

/-- The sum of the lengths of a list of segments (R36). -/
def totalLength (l : List Segment) : Nat := (l.map (·.length)).sum

/-- The sum of the rises of a list of segments, each rounded before it is summed (R36). -/
def totalRise (l : List Segment) : Nat := (l.map fun g => riseOf g.grade g.length).sum

/-- The in-use count of a sheet changed as a DIG takes it or leaves the queue (R45). -/
def adjustInUse (f : Nat → Nat) (p : OpParams) (s : State) : State :=
  match p with
  | .dig n _ _ _ => modifySheet n (fun h => { h with inUse := f h.inUse }) s
  | _ => s

/-! ## The operation queue and the pause-reason set -/

/-- The executing operation: the head, once it has begun (R140, R143). -/
def executing (s : State) : Option (Operation × RunInfo) :=
  match s.oq.ops with
  | [] => none
  | op :: _ =>
    match op.state with
    | .executing info => some (op, info)
    | .waiting => none

/-- The pause-reason set changed by a function. -/
def withPause (f : PauseSet → PauseSet) (s : State) : State :=
  { s with oq := { s.oq with pause := f s.oq.pause } }

/-- No reason is present (R157). -/
def pauseEmpty (p : PauseSet) : Bool :=
  !(p.beam || p.resumeWait || p.segmentHold || p.reach || p.stopping || p.bench)

/-- Whether the queue holds a DIG, executing or waiting (R31). -/
def holdsDig (s : State) : Bool :=
  s.oq.ops.any fun op => match op.params with
    | .dig .. => true
    | _ => false

/-! ## The drive level and the outputs -/

/-- The conditions that hold both duties at 0 whatever V is handed (R161): a shadow run, the FAULTED mark,
an empty queue. -/
def dutiesHeld (s : State) : Bool := s.sm.isSome || s.os.faulted || s.oq.ops.isEmpty

/-- The raise duty of a drive level (R161). -/
def raiseDutyFor (k : Constants) (v : Int) : Nat :=
  if 0 < v then k.coilMinRaise + (v.toNat * (1000 - k.coilMinRaise)) / 1000 else 0

/-- The lower duty of a drive level (R161). -/
def lowerDutyFor (k : Constants) (v : Int) : Nat :=
  if v < 0 then k.coilMinLower + ((-v).toNat * (1000 - k.coilMinLower)) / 1000 else 0

/-- A coil's open count after its duty changes: 0 when the coil changes between driven and undriven (R163). -/
def coilAfterDuty (old new : Nat) (c : Coil) : Coil :=
  if (old == 0) == (new == 0) then c else { c with openCount := 0 }

/-- New duties take effect at once (R162), the open counts following R163. -/
def setDuties (r l : Nat) (o : Os) : Os :=
  { o with raiseDuty := r, lowerDuty := l, raise := coilAfterDuty o.raiseDuty r o.raise,
           lower := coilAfterDuty o.lowerDuty l o.lower }

/-- Set V and hand it on (R96): to the Shadow Model during a shadow run, and to the Output Stage, which sets
the duties by the table of R161 or holds them at 0. -/
def handOn (v : Int) (s : State) : State :=
  { s with
    gl := { s.gl with v := v }
    sm := s.sm.map fun m => { m with drive := v }
    os := if dutiesHeld s then setDuties 0 0 s.os
          else setDuties (raiseDutyFor s.clp.consts v) (lowerDutyFor s.clp.consts v) s.os }

/-- Loop states in which the permit may be asserted (R169). -/
def loopTravels : LoopState → Bool
  | .acquiring => false
  | .lost _ => false
  | _ => true

/-- The executing operation is a DIG whose run phase is RUNNING, or a HOLD (R169). -/
def operationTravels (s : State) : Bool :=
  match executing s with
  | some (op, _) =>
    match op.params with
    | .dig .. => match s.lt with
      | some r => r.phase == .running
      | none => false
    | .hold .. => true
    | _ => false
  | none => false

/-- The loop state of the loop context lets the machine travel (R169). -/
def loopStateTravels (s : State) : Bool :=
  match s.gl.loop with
  | some l => loopTravels l.state
  | none => false

/-- The conditions of the internal permit (R169). -/
def permitHolds (s : State) : Bool :=
  operationTravels s && pauseEmpty s.oq.pause && loopStateTravels s && !s.os.faulted

/-- Form the internal permit and the PERMIT pin afresh (R169, R170). -/
def formPermit (s : State) : State :=
  { s with os := { s.os with permit := permitHolds s, pin := permitHolds s && s.sm.isNone } }

/-! ## The loop context -/

/-- The loop context, when there is one, changed by a function. -/
def modifyLoop (f : LoopCtx → LoopCtx) (s : State) : State :=
  { s with gl := { s.gl with loop := s.gl.loop.map f } }

/-- The loop state set. -/
def setLoopState (st : LoopState) : State → State := modifyLoop fun l => { l with state := st }

/-- Clear the error window, load the settle count and set the hold count to 0; V is kept (R85). -/
def clearWindow (s : State) : State :=
  modifyLoop (fun l => { l with window := [], settle := s.clp.consts.settleCount, holdCount := 0 }) s

/-- The stroke the Grade Loop and the queue act on (R164): the latest sample, and in a shadow run the
simulated stroke as last handed on. -/
def strokeSeen (s : State) : Nat :=
  match s.sm with
  | some m => m.handed
  | none => s.os.stroke

/-! ## The tie engine -/

/-- The tie state (R118). -/
def tieState (s : State) : TieState :=
  match s.te.tie with
  | none => .idle
  | some r => if r.result.isSome then .waiting else .collecting

/-- COLLECTING or WAITING. -/
def tieInFlight (s : State) : Bool := s.te.tie.isSome

/-- The tie record, when there is one, changed by a function. -/
def modifyTie (f : TieRecord → TieRecord) (s : State) : State :=
  { s with te := { s.te with tie := s.te.tie.map f } }

/-- End a plane tie without transfer, in the order of R134; nothing when no tie is in flight. -/
def endTie (why : TieReason) (spread : Option Int) (s : State) : State :=
  match s.te.tie with
  | none => s
  | some r =>
    let s1 := modifyEntry r.candidate (fun e => { e with role := .standby, tie := none }) s
    let s2 := fire (.tieFailed r.candidate why r.pairs.length spread) s1
    { s2 with te := { s2.te with tie := none, last := some (.failed r.candidate why r.pairs.length spread) } }

/-! ## Setting the chainage -/

/-- What a setting of the chainage does to the loop's limits (R106, R108): the coast or search start becomes
the set value. -/
def loopAtSetting (c : Nat) : LoopState → LoopState
  | .coasting _ since => .coasting c since
  | .searching dir level _ due flips since => .searching dir level c due flips since
  | st => st

/-- What a setting does to a tie: while COLLECTING its reckoning of chainage starts afresh (R129). -/
def tieAtSetting (c : Nat) (r : TieRecord) : TieRecord :=
  if r.result.isSome then r
  else { r with startChainage := c, activeSlot := none, candidateSlot := none, pairs := [], cRef := none }

/-- What a setting does to an operation: an executing HOLD counts its distance afresh (R148). -/
def opAtSetting (c : Nat) (op : Operation) : Operation :=
  match op.params, op.state with
  | .hold .., .executing info => { op with state := .executing { info with cycleChainage := c } }
  | _, _ => op

/-- The blocks whose reckoning a setting restarts, once the accumulator has been set: the loop's coast or
search start, the tie's reckoning, the HOLD cycle start, and the start of a shadow gap (R106, R108, R129,
R148, R180). -/
def tellSetting (c : Nat) (s : State) : State :=
  { s with
    gl := { s.gl with loop := s.gl.loop.map fun l => { l with state := loopAtSetting c l.state } }
    te := { s.te with tie := s.te.tie.map (tieAtSetting c) }
    oq := { s.oq with ops := s.oq.ops.map (opAtSetting c) }
    sm := s.sm.map fun m => { m with gap := m.gap.map fun g => { g with start := c } } }

/-- Set the accumulator: the limit latch is cleared and the detector's anchor moves (R28, R30). -/
def setAccumulator (acc : Nat) (s : State) : State :=
  { s with cc := { s.cc with acc := acc, limitLatch := false, anchor := acc / 1000 } }

/-- Set the chainage, as distinct from stepping it (R30). -/
def setTheChainage (c : Nat) (s : State) : State := tellSetting c (setAccumulator (1000 * c) s)

/-! ## Answering a request -/

/-- The kind codes of the requests (section 11.2). -/
def requestCode : Request → Nat
  | .identify => 1
  | .status => 2
  | .poll => 3
  | .readFlags => 4
  | .clearFlags => 5
  | .setEnables => 6
  | .readCounts => 7
  | .setConstant => 8
  | .getConstant => 9
  | .restart => 10
  | .openSheet => 16
  | .appendSegment => 17
  | .sealSheet => 18
  | .eraseSheet => 19
  | .readSheet => 20
  | .definePlane => 32
  | .clearPlane => 33
  | .readPlane => 34
  | .mastLine => 35
  | .setChainage => 40
  | .enqueue => 48
  | .readQueue => 49
  | .softAbort => 50
  | .stop => 51
  | .resume => 52
  | .tieStart => 64
  | .tieCommit => 65
  | .tieCancel => 66
  | .readTie => 67
  | .clearFault => 72
  | .shadowOn => 80
  | .shadowOff => 81
  | .shadowGap => 82

/-- Whether a received request is the one of this kind code and tag, sent as a broadcast or to this node. -/
def isRequest (broadcast : Bool) (kind tag : Nat) (r : Received) : Bool :=
  r.broadcast == broadcast && r.kind == kind && r.tag == tag

/-- The received request that is now taken leaves the port's hand: the first of this kind code and tag that came in
the same way, wherever it stands in the list (log 4). -/
def dropTaken (broadcast : Bool) (kind tag : Nat) (l : List Received) : List Received :=
  l.eraseP (isRequest broadcast kind tag)

/-- A request of this kind code and tag has been taken out of the port's hand. -/
def takeInHand (broadcast : Bool) (kind tag : Nat) (s : State) : State :=
  { s with clp := { s.clp with inHand := dropTaken broadcast kind tag s.clp.inHand } }

/-- Send the reply of R187: the receiver is held in HUNTING until its last byte has been sent. The requests in the
port's hand stay there. -/
def sendReply (kind tag : Nat) (result : ResultCode) (contents : Contents) (s : State) : State :=
  { s with clp := { s.clp with reply := some ⟨kind, tag, result, contents⟩, held := true, rx := .hunting } }

/-- Take an addressed request out of the port's hand and answer it. -/
def takeAndReply (kind tag : Nat) (result : ResultCode) (contents : Contents) (s : State) : State :=
  sendReply kind tag result contents (takeInHand false kind tag s)

/-- Answer a request of the catalogue. -/
def answer (q : Request) (tag : Nat) (result : ResultCode) (contents : Contents) (s : State) : State :=
  takeAndReply (requestCode q) tag result contents s

/-- Refuse a request: the part stays as it was and the reply carries the result code alone (R187). -/
def refuse (q : Request) (tag : Nat) (result : ResultCode) (s : State) : State := answer q tag result .none s

/-- One millisecond of the free-running clock passes (R1, log 1). -/
def tickClock (s : State) : State := { s with clock := s.clock + 1 }

end Sys2Proof.Machine
end

