-- ==== Sys2Proof/Machine/Planes.lean ====
section
/-! DEFINITION. The requests of the Plane Acceptance Table (spec/01): DEFINE_PLANE, CLEAR_PLANE and
READ_PLANE. -/

namespace Sys2Proof.Machine

/-- The entry is in work: ACTIVE or CANDIDATE (R19, R20). -/
def inWork (r : Role) : Bool := r == .active || r == .candidate

/-- The new window overlaps that of a non-EMPTY entry other than the one named (R19). -/
def overlapsOther (i : Fin 8) (lo hi : Nat) (s : State) : Bool :=
  entryIndices.any fun j =>
    j != i && (entryAt s j).role != .empty && windowsOverlap lo hi (entryAt s j).sigLo (entryAt s j).sigHi

/-- The tests of DEFINE_PLANE in order, with the entry named (R19). -/
def definePlaneTest (entry lo hi : Nat) (slope : Int) (s : State) : ResultCode ⊕ Fin 8 :=
  match entryOf entry with
  | none => .inl .badValue
  | some i =>
    if hi < lo ∨ slope < -10000 ∨ 10000 < slope then .inl .badValue
    else if inWork (entryAt s i).role then .inl .state
    else if overlapsOther i lo hi s then .inl .overlap
    else .inr i

/-- DEFINE_PLANE (R19). -/
def execDefinePlane (tag entry sigLo sigHi : Nat) (slope : Int) (s : State) : Host.Outcome State Fault Refusal :=
  match definePlaneTest entry sigLo sigHi slope s with
  | .inl code => .next (refuse .definePlane tag code s)
  | .inr i =>
    .next (answer .definePlane tag .ok .none (modifyEntry i (fun _ =>
      { PlaneEntry.cleared with role := .standby, sigLo := sigLo, sigHi := sigHi, slope := slope }) s))

/-- CLEAR_PLANE (R20). -/
def execClearPlane (tag entry : Nat) (s : State) : Host.Outcome State Fault Refusal :=
  match entryOf entry with
  | none => .next (refuse .clearPlane tag .badValue s)
  | some i =>
    if inWork (entryAt s i).role then .next (refuse .clearPlane tag .state s)
    else .next (answer .clearPlane tag .ok .none (modifyEntry i (fun _ => PlaneEntry.cleared) s))

/-- READ_PLANE: the entry as it stands, its match flag then cleared (R21). -/
def execReadPlane (tag entry : Nat) (s : State) : Host.Outcome State Fault Refusal :=
  match entryOf entry with
  | none => .next (refuse .readPlane tag .badValue s)
  | some i =>
    .next (answer .readPlane tag .ok (.plane (entryAt s i)) (modifyEntry i (fun e => { e with matched := false }) s))

end Sys2Proof.Machine
end

