-- ==== Sys2Proof/Machine/CabFrame.lean ====
section
/-! DEFINITION. The request frame of the cab line (R183, R187): the length a kind's fields imply, and the
command a body spells. A number takes the fewest whole bytes its range needs, most significant first; the
grade of APPEND_SEGMENT takes 2, the values of SET_CHAINAGE and SET_CONSTANT 4. -/

namespace Sys2Proof.Machine

/-- The request a kind code names (section 11.2). -/
def requestOfCode : Nat → Option Request
  | 1 => some .identify
  | 2 => some .status
  | 3 => some .poll
  | 4 => some .readFlags
  | 5 => some .clearFlags
  | 6 => some .setEnables
  | 7 => some .readCounts
  | 8 => some .setConstant
  | 9 => some .getConstant
  | 10 => some .restart
  | 16 => some .openSheet
  | 17 => some .appendSegment
  | 18 => some .sealSheet
  | 19 => some .eraseSheet
  | 20 => some .readSheet
  | 32 => some .definePlane
  | 33 => some .clearPlane
  | 34 => some .readPlane
  | 35 => some .mastLine
  | 40 => some .setChainage
  | 48 => some .enqueue
  | 49 => some .readQueue
  | 50 => some .softAbort
  | 51 => some .stop
  | 52 => some .resume
  | 64 => some .tieStart
  | 65 => some .tieCommit
  | 66 => some .tieCancel
  | 67 => some .readTie
  | 72 => some .clearFault
  | 80 => some .shadowOn
  | 81 => some .shadowOff
  | 82 => some .shadowGap
  | _ => none

/-- An unsigned field of n bytes at an offset of a body. -/
def field (b : List Byte) (offset n : Nat) : Nat := beNat ((b.drop offset).take n)

/-- A signed field of n bytes at an offset of a body. -/
def signedField (b : List Byte) (offset n : Nat) : Int := beInt ((b.drop offset).take n)

/-- A mask field at an offset of a body (R183). -/
def maskField (b : List Byte) (offset : Nat) : Mask := BitVec.ofNat 16 (field b offset 2)

/-- The length of an ENQUEUE body by its kind code, which is its second byte; a code that names no kind implies
none. A body too short to hold a kind code has the wrong length (log 29). The time of a DWELL is counted as the number
of its range, 100 to 60,000, in 2 bytes, not as a clock time in 4 (DESIGN CHOICE, log 39). -/
def enqueueLength (b : List Byte) : Option Nat :=
  if b.length < 2 then some 3
  else
    match field b 1 1 with
    | 0 => some 10
    | 1 => some 5
    | 2 => some 9
    | 3 => some 3
    | 4 => some 5
    | _ => none

/-- The body length the fields and presence marks of a request imply; none where nothing is implied (R187). -/
def impliedLength (q : Request) (b : List Byte) : Option Nat :=
  match q with
  | .clearFlags => some 2
  | .setEnables => some 2
  | .setConstant => some 5
  | .getConstant => some 1
  | .openSheet => some (10 + field b 1 1)
  | .appendSegment => some 8
  | .sealSheet => some 1
  | .eraseSheet => some 1
  | .readSheet => some 2
  | .definePlane => some 5
  | .clearPlane => some 1
  | .readPlane => some 1
  | .mastLine => some 1
  | .setChainage => some 4
  | .enqueue => enqueueLength b
  | .tieStart => some 3
  | .shadowGap => some 2
  | _ => some 0

/-- The body has the length its kind implies (R187 test 2). -/
def lengthMatches (q : Request) (b : List Byte) : Bool :=
  match impliedLength q b with
  | some n => b.length == n
  | none => true

/-- The header OPEN_SHEET carries after n (R38). -/
def headerFields (b : List Byte) : HeaderFields :=
  let k := field b 1 1
  { name := (b.drop 2).take k, depthMark := field b (2 + k) 1, depth := field b (3 + k) 2,
    minGrade := field b (5 + k) 2, shallow := field b (7 + k) 1, deep := field b (8 + k) 1,
    autoAdvance := field b (9 + k) 1 }

/-- The operation ENQUEUE carries: after its tag, the kind code, the parameters of the kind and the standing
mark, which is the last byte (R141, R183). -/
def enqueueCommand (tag : Nat) (b : List Byte) : Instr :=
  let opTag := field b 0 1
  match field b 1 1 with
  | 0 => .enqueue tag opTag (.dig (field b 2 1) (field b 3 1) (field b 4 1) (field b 5 1) (field b 6 3)) (field b 9 1)
  | 1 => .enqueue tag opTag (.plunge (field b 2 2)) (field b 4 1)
  | 2 => .enqueue tag opTag (.hold (field b 2 1) (field b 3 2) (field b 5 3)) (field b 8 1)
  | 3 => .enqueue tag opTag .lift (field b 2 1)
  | 4 => .enqueue tag opTag (.dwell (field b 2 2)) (field b 4 1)
  | code => .enqueue tag opTag (.unknown code) 0

/-- The command a request of the catalogue spells, its body having the right length (R183, R187). -/
def requestCommand (q : Request) (tag : Nat) (b : List Byte) : Instr :=
  match q with
  | .identify => .identify tag
  | .status => .status tag
  | .poll => .poll tag
  | .readFlags => .readFlags tag
  | .clearFlags => .clearFlags tag (maskField b 0)
  | .setEnables => .setEnables tag (maskField b 0)
  | .readCounts => .readCounts tag
  | .setConstant => .setConstant tag (field b 0 1) (signedField b 1 4)
  | .getConstant => .getConstant tag (field b 0 1)
  | .restart => .restart tag
  | .openSheet => .openSheet tag (field b 0 1) (headerFields b)
  | .appendSegment =>
    .appendSegment tag (field b 0 1) (field b 1 3) (signedField b 4 2) (field b 6 1) (field b 7 1)
  | .sealSheet => .sealSheet tag (field b 0 1)
  | .eraseSheet => .eraseSheet tag (field b 0 1)
  | .readSheet => .readSheet tag (field b 0 1) (field b 1 1)
  | .definePlane => .definePlane tag (field b 0 1) (field b 1 1) (field b 2 1) (signedField b 3 2)
  | .clearPlane => .clearPlane tag (field b 0 1)
  | .readPlane => .readPlane tag (field b 0 1)
  | .mastLine => .mastLine tag (field b 0 1)
  | .setChainage => .setChainage tag (field b 0 4)
  | .enqueue => enqueueCommand tag b
  | .readQueue => .readQueue tag
  | .softAbort => .softAbort tag
  | .stop => .stop false tag
  | .resume => .resume tag
  | .tieStart => .tieStart tag (field b 0 1) (field b 1 1) (field b 2 1)
  | .tieCommit => .tieCommit tag
  | .tieCancel => .tieCancel tag
  | .readTie => .readTie tag
  | .clearFault => .clearFault tag
  | .shadowOn => .shadowOn tag
  | .shadowOff => .shadowOff tag
  | .shadowGap => .shadowGap tag (field b 0 2)

end Sys2Proof.Machine
end

