-- ==== Sys2Proof/Machine/Mast.lean ====
section
/-! DEFINITION. The Mast Line Receiver and the Strike Qualifier (spec/01): the frame assembler, the strike
slot, validation, matching, the entry update, routing, and MAST_LINE. -/

namespace Sys2Proof.Machine

/-! ## The strike slot -/

/-- The strike slot set. -/
def setSlot (x : Option Strike) (s : State) : State := { s with mlr := { s.mlr with slot := x } }

/-- A strike offered to the slot fills it; a strike waiting there is replaced and lost, with OVERRUN (R8). -/
def offerStrike (x : Strike) (s : State) : State :=
  if s.mlr.slot.isSome then countOverrun (setSlot (some x) s) else setSlot (some x) s

/-- A good frame from the mast line: stamped and offered to the slot, or masked during a shadow run (R7,
R10). -/
def goodStrikeFrame (sig first last status : Byte) (s : State) : State :=
  if s.sm.isSome then countShadowMasked s
  else
    offerStrike { sig := sig, first := first, last := last, status := status, chainage := chainage s,
                  time := s.clock, generated := false } s

/-! ## The frame assembler -/

/-- The assembler's state set. -/
def setMastRx (rx : LineRx) (s : State) : State := { s with mlr := { s.mlr with rx := rx } }

/-- The byte that starts a strike frame. -/
def mastSync : Byte := 0xB4

/-- The gap timer of both lines, in milliseconds. -/
def gapTime : Nat := 2

/-- The sixth byte completes a frame, whose check is tested (R7). -/
def checkStrikeFrame (frame : List Byte) (s : State) : State :=
  match frame with
  | [_, sig, first, last, status, check] =>
    if check = strikeCheck sig first last status then goodStrikeFrame sig first last status s
    else countDamaged s
  | _ => s

/-- A clean byte in COLLECTING (R5). -/
def collectMastByte (data : Byte) (bytes : List Byte) (s : State) : State :=
  let frame := bytes ++ [data]
  if frame.length < 6 then setMastRx (.collecting frame (after s.clock gapTime)) s
  else checkStrikeFrame frame (setMastRx .hunting s)

/-- A complete byte on the mast line, clean or marked (R4, R5). -/
def takeMastByte (data : Byte) (isMarked : Bool) (s : State) : State :=
  match s.mlr.rx with
  | .hunting =>
    if !isMarked && data == mastSync then setMastRx (.collecting [data] (after s.clock gapTime)) s
    else countNoise s
  | .collecting bytes _ =>
    if isMarked then countDamaged (setMastRx .hunting s) else collectMastByte data bytes s

/-- MAST_BYTE: a character completes on MAST_RX; none is received while the line is off (R3, R11). -/
def execMastByte (data : Byte) (parity stop : Bool) (s : State) : Host.Outcome State Fault Refusal :=
  if s.mlr.lineOn then .next (takeMastByte data (marked data parity stop) s) else .next s

/-- MAST_GAP_TIMER_EXPIRY: the partial frame is discarded as damaged (R6). -/
def execMastGapTimerExpiry (s : State) : Host.Outcome State Fault Refusal :=
  match s.mlr.rx with
  | .collecting _ _ => .next (countDamaged (setMastRx .hunting s))
  | .hunting => .next s

/-- The settings of MAST_LINE: OFF and ON (R11). OFF empties the slot, discards a partial frame and clears
three counters; ON changes nothing of a line already on, and starts a line that was off in HUNTING. -/
def setMastLine (on : Bool) (s : State) : State :=
  if on then
    if s.mlr.lineOn then s else { s with mlr := { s.mlr with lineOn := true, rx := .hunting } }
  else
    withCounters (fun c => { c with noise := 0, damaged := 0, overrun := 0 })
      { s with mlr := { lineOn := false, rx := .hunting, slot := none } }

/-- MAST_LINE (R11). -/
def execMastLine (tag setting : Nat) (s : State) : Host.Outcome State Fault Refusal :=
  match markOf setting with
  | some on => .next (answer .mastLine tag .ok .none (setMastLine on s))
  | none => .next (refuse .mastLine tag .badValue s)

/-! ## The Strike Qualifier -/

/-- The greatest span of an IN_WINDOW strike, in cells (R13). -/
def broadestSpan : Nat := 12

/-- The validation of a strike (R13, R14): its beam when it is accepted, none when it is MALFORMED or
BROAD. -/
def validate (x : Strike) : Option Beam :=
  match x.status.toNat with
  | 0 =>
    if x.last.toNat < x.first.toNat ∨ 95 < x.last.toNat ∨ broadestSpan < x.last.toNat - x.first.toNat + 1 then
      none
    else some (.inWindow ((x.first.toNat : Int) + (x.last.toNat : Int) - 95))
  | 1 => some .above
  | 2 => some .below
  | 3 => some .split
  | _ => none

/-- A foreign strike: counted, and LINE fires when the foreign latch was clear (R15). -/
def foreignStrike (s : State) : State :=
  let s1 := countForeign s
  if s.sq.foreignLatch then s1
  else fire (.line .foreign) { s1 with sq := { s1.sq with foreignLatch := true } }

/-- The update of the matched entry (R16). -/
def recordStrike (q : QStrike) (e : PlaneEntry) : PlaneEntry :=
  { e with matched := true, count := countOne e.count,
           last := some { beam := q.beam, chainage := q.chainage, time := q.time } }

/-- The blocks a strike of the ACTIVE entry may be handed to besides the Tie Engine's copy (R17). -/
inductive ActiveRoute where
  | bench | loop | nowhere
deriving DecidableEq, Repr

/-- Where a strike of the ACTIVE entry goes by what executes (R17). -/
def activeRoute (s : State) : ActiveRoute :=
  match executing s with
  | none => .nowhere
  | some (op, _) =>
    match op.params with
    | .dig .. => match s.lt with
      | some r => if r.phase = .benching then .bench else .loop
      | none => .nowhere
    | .plunge _ => .loop
    | .hold .. => .loop
    | .lift => .nowhere
    | .dwell _ => .nowhere

/-- Hand a qualified strike on by the role of its entry (R17). -/
def routeStrike (q : QStrike) (s : State) : State :=
  match (entryAt s q.entry).role with
  | .active =>
    let copy := if tieState s = .collecting then some (TieStream.active, q) else none
    match activeRoute s with
    | .bench => { s with sq := { s.sq with toBench := some q, toTie := copy } }
    | .loop => { s with sq := { s.sq with toLoop := some q, toTie := copy } }
    | .nowhere => { s with sq := { s.sq with toTie := copy } }
  | .candidate => { s with sq := { s.sq with toTie := some (.candidate, q) } }
  | _ => s

/-- Matching, entry update and routing of an accepted strike (R15 to R17). -/
def matchStrike (x : Strike) (beam : Beam) (s : State) : State :=
  match matchingEntry s x.sig.toNat with
  | none => foreignStrike s
  | some i =>
    let q : QStrike := { entry := i, beam := beam, chainage := x.chainage, time := x.time }
    routeStrike q (modifyEntry i (recordStrike q) s)

/-- Validation and what follows it (R12, R13). -/
def qualify (x : Strike) (s : State) : State :=
  match validate x with
  | none => countRejected s
  | some beam => matchStrike x beam s

/-- The qualifier is idle: no block it handed a strike to has still to finish it (R12). -/
def qualifierIdle (s : State) : Bool := s.sq.toLoop.isNone && s.sq.toBench.isNone && s.sq.toTie.isNone

/-- STRIKE_TAKE: an idle qualifier takes the strike from a full slot (R12). -/
def execStrikeTake (s : State) : Host.Outcome State Fault Refusal :=
  match s.mlr.slot with
  | some x => if qualifierIdle s then .next (qualify x (setSlot none s)) else .next s
  | none => .next s

end Sys2Proof.Machine
end

