-- ==== Sys2Proof/Machine/LineTracker.lean ====
section
/-! DEFINITION. The Line Tracker (spec/04): the run context at creation, the staged slot, the design invert,
the answer to the Grade Loop, and what an exchange, a held segment end, the run end and a soft abort do. -/

namespace Sys2Proof.Machine

/-- The end chainage of the current segment, formed whenever it is wanted (section 4.1). -/
def endChainage (c : CurrentSegment) : Nat := c.cs + c.length

/-- The design invert at a chainage, for the current segment (R54). -/
def designInvert (c : CurrentSegment) (ct : Nat) : Int :=
  c.invert + roundDiv ((c.grade : Int) * ((ct : Int) - (c.cs : Int))) 100000

/-- A segment of the sheet as the current segment, placed at a chainage and an invert (R51, R58). -/
def currentOf (index cs : Nat) (invert : Int) (g : Segment) : CurrentSegment :=
  { index := index, cs := cs, invert := invert, grade := g.grade, length := g.length, marker := g.marker,
    stopAtEnd := g.stopAtEnd }

/-- The staged slot that follows a current segment (R53). -/
def stagedAfter (segments : List Segment) (c : CurrentSegment) : Option StagedSegment :=
  if c.index + 1 < segments.length then
    some { index := c.index + 1, cs := endChainage c, invert := c.invert + (riseOf c.grade c.length : Int) }
  else none

/-- The Line Tracker's answer to the Grade Loop: the target chainage and the design invert there, or no
target (R55). BENCHING is never asked. -/
def targetAnswer (r : RunCtx) (c : Nat) : Option (Nat × Int) :=
  let held := r.frozen.map fun ct => (ct, designInvert r.cur ct)
  match r.phase with
  | .benching => none
  | .running => let ct := min c (endChainage r.cur); some (ct, designInvert r.cur ct)
  | .segmentHold => held
  | .ended => held
  | .stopping => if r.unbenched then none else held

/-- MARKER fires when a segment whose marker is not NONE becomes current (R62). -/
def fireMarker (c : CurrentSegment) (s : State) : State :=
  if c.marker = .none then s else fire (.marker c.marker c.index c.cs) s

/-- Create the run context of a DIG whose start chainage is fixed (R51, R52). -/
def createRun (n : Fin 6) (k0 c0 : Nat) (s : State) : State :=
  let segments := segmentsOf (sheetAt s n).body
  match segments[k0]?, headerIn (sheetAt s n).body with
  | some g, some h =>
    let c := currentOf k0 c0 0 g
    fireMarker c { s with lt := some {
      sheet := n, k0 := k0, c0 := c0, base := totalRise (segments.take k0), cur := c,
      staged := stagedAfter segments c, phase := if h.startDepth.isSome then .running else .benching,
      frozen := none, unbenched := false, softAborted := false } }
  | _, _ => s

/-- The staged segment becomes current: steps 1 to 5 of R58. -/
def exchange (s : State) : State :=
  match s.lt with
  | none => s
  | some r =>
    let segments := segmentsOf (sheetAt s r.sheet).body
    match r.staged with
    | none => s
    | some st =>
      match segments[st.index]? with
      | none => s
      | some g =>
        let c := currentOf st.index st.cs st.invert g
        let s1 := clearWindow { s with lt := some { r with cur := c, staged := stagedAfter segments c } }
        fireMarker c (fire (.segmentChange c.index c.cs c.invert) s1)

/-- The run halts at its segment end (R59). -/
def holdAtEnd (r : RunCtx) (st : StagedSegment) (s : State) : State :=
  let s1 := { s with lt := some { r with frozen := some st.cs, phase := .segmentHold } }
  let s2 := withPause (fun p => { p with segmentHold := true }) s1
  fire (.segmentEnd r.cur.index st.cs (if r.cur.stopAtEnd then .stopAtEnd else .noAdvance)) s2

/-- The run reaches its end: steps 1 to 3 of R64. -/
def reachEnd (r : RunCtx) (s : State) : State :=
  let s1 := { s with lt := some { r with frozen := some (endChainage r.cur), phase := .ended } }
  fire (.runEnd r.cur.index (endChainage r.cur) (designInvert r.cur (endChainage r.cur))) s1

/-- The sheet of a run advances by itself (section 3.1). -/
def advancesAlone (r : RunCtx) (s : State) : Bool :=
  match headerIn (sheetAt s r.sheet).body with
  | some h => h.autoAdvance
  | none => false

/-- The pending exchange of SEGMENT_HOLD begins: the reason and the frozen chainage go and the run is RUNNING
(R61). -/
def releaseHold (r : RunCtx) (s : State) : State :=
  withPause (fun p => { p with segmentHold := false })
    { s with lt := some { r with frozen := none, phase := .running } }

/-- The phase of a run is one in which a soft abort puts it in STOPPING (R66). -/
def stopsAtSoftAbort : RunPhase → Bool
  | .benching => true
  | .running => true
  | .segmentHold => true
  | .ended => false
  | .stopping => false

/-- The frozen chainage a soft abort gives (R66). -/
def frozenAtSoftAbort (r : RunCtx) (c : Nat) : Option Nat :=
  match r.phase with
  | .running => some (min c (endChainage r.cur))
  | .benching => none
  | _ => r.frozen

/-- What a soft abort does to the run before its wait for the machine to stand (R66, R67): the mark in every
phase; STOPPING from BENCHING (with the bench abandoned), RUNNING and SEGMENT_HOLD. -/
def softAbortRun (r : RunCtx) (s : State) : State :=
  if stopsAtSoftAbort r.phase then
    withPause (fun p => { p with segmentHold := false, bench := false, stopping := true })
      { s with
        te := { s.te with bench := none }
        lt := some { r with softAborted := true, phase := .stopping, frozen := frozenAtSoftAbort r (chainage s),
                            unbenched := decide (r.phase = .benching) } }
  else { s with lt := some { r with softAborted := true } }

end Sys2Proof.Machine
end

