-- ==== Sys2Proof/Machine/Queue.lean ====
section
/-! DEFINITION. The Operation Queue (spec/08): how an operation leaves it, how the head starts, the start
checks and start actions of each kind, the end of a cycle, and the emptying of the queue; with the boundary
test of R57, whose run end completes the DIG. -/

namespace Sys2Proof.Machine

/-! ## Leaving the queue -/

/-- The blocks an operation used drop what they held for it (R155 step 1): the loop context with V handed on
as 0, the run context, the bench collector, chw, and the DWELL timer. -/
def dropContexts (s : State) : State :=
  let s1 := handOn 0 s
  { s1 with
    gl := { s1.gl with loop := none }
    lt := none
    te := { s1.te with bench := none }
    cc := { s1.cc with chw := none }
    oq := { s1.oq with dwellTimer := none } }

/-- An operation of the kinds that count cycles left the queue before a cycle of it began (log 9). -/
def neverCycled (op : Operation) : Bool :=
  mayStand op.params && match op.state with
    | .executing info => info.cycles == 0
    | .waiting => true

/-- The cycle count OP_DONE carries (R156): the count reached for a HOLD or a DWELL, 0 for the other kinds,
and a free value for a HOLD or a DWELL that never began a cycle (log 9). -/
def cyclesReported (op : Operation) (free : Nat) : Nat :=
  if mayStand op.params then
    match op.state with
    | .executing info => if info.cycles = 0 then (Config.unstartedCycles free).toNat else info.cycles
    | .waiting => (Config.unstartedCycles free).toNat
  else 0

/-- The head leaves the queue: steps 1 to 4 of R155. -/
def leaveQueue (out : OpOutcome) (why : OpReason) (s : State) : State :=
  match s.oq.ops with
  | [] => s
  | op :: rest =>
    let s1 := withPause (fun _ => .none) (dropContexts s)
    let s2 := adjustInUse (· - 1) op.params { s1 with oq := { s1.oq with ops := rest } }
    let s3 := fire (.opDone op.tag (kindOf op.params) out why (cyclesReported op s.free) rest.length) s2
    if neverCycled op then { s3 with free := s3.free + 1 } else s3

/-- The sequencer state of an empty queue: IDLE, or FAULTED while the part is (section 8.1). -/
def idleSequencer (s : State) : State :=
  { s with oq := { s.oq with seq := if s.oq.seq = .faulted then .faulted else .idle } }

/-- A number of operations leave the queue FLUSHED, oldest first. -/
def flushWaiting (why : OpReason) : Nat → State → State
  | 0, s => s
  | n + 1, s => flushWaiting why n (leaveQueue .flushed why s)

/-- Empty the queue (R153, R157, R160): the executing operation leaves with the given outcome, the waiting
ones FLUSHED, oldest first. -/
def emptyQueue (out : OpOutcome) (why : OpReason) (s : State) : State :=
  let s1 := if (executing s).isSome then leaveQueue out why s else s
  flushWaiting why s1.oq.ops.length s1

/-! ## Starting the head -/

/-- The head becomes EXECUTING, with its start time, and the sequencer EXECUTING if it was IDLE (R143). -/
def markStarted (s : State) : State :=
  match s.oq.ops with
  | [] => s
  | op :: rest =>
    let started := { op with
      state := .executing { startTime := s.clock, cycles := 0, cycleChainage := 0, cycleTime := 0 } }
    { s with oq := { s.oq with ops := started :: rest,
                               seq := if s.oq.seq = .idle then .executing else s.oq.seq } }

/-- The start checks of a DIG, in order (R144). -/
def digCheck (n : Fin 6) (k0 : Nat) (e : Fin 8) (c0 : Option Nat) (s : State) : Option OpReason :=
  let segments := segmentsOf (sheetAt s n).body
  let role := (entryAt s e).role
  if segments.length ≤ k0 then some .badSegment
  else if role ≠ .standby ∧ role ≠ .active then some .planeRole
  else if role ≠ .active ∧ tieInFlight s then some .tieBusy
  else if 999999 < c0.getD (chainage s) + totalLength (segments.drop k0) then some .range
  else none

/-- The start check of a PLUNGE and of a HOLD: an entry is ACTIVE (R147, R148). -/
def planeCheck (s : State) : Option OpReason := if (activeEntry s).isSome then none else some .noPlane

/-- The start checks of an operation. -/
def startCheck (p : OpParams) (s : State) : Option OpReason :=
  match p with
  | .dig n k0 e c0 => digCheck n k0 e c0 s
  | .plunge _ => planeCheck s
  | .hold .. => planeCheck s
  | .lift => none
  | .dwell _ => none

/-- The named entry becomes ACTIVE and any other ACTIVE entry STANDBY without its tie; an entry already
ACTIVE stays as it is (R145 step 2, R18). -/
def makeActive (e : Fin 8) (s : State) : State :=
  if (entryAt s e).role = .active then s
  else
    let demote : PlaneEntry → PlaneEntry :=
      fun p => if p.role = .active then { p with role := .standby, tie := none } else p
    modifyEntry e (fun p => { p with role := .active }) { s with pat := mapEntries demote s.pat }

/-- Start a bench: the collector, in SAMPLING at once when the machine stands, and the reason BENCH (R120). -/
def startBench (s : State) : State :=
  withPause (fun p => { p with bench := true })
    { s with te := { s.te with bench := some {
      sampling := decide (s.cc.still = .still), samples := [], reference := none, moveRestarts := 0,
      spreadRestarts := 0 } } }

/-- The first tie of a run (R119). -/
def firstTie (n : Fin 6) (e : Fin 8) (c0 : Nat) (s : State) : State :=
  let s1 := endTie .rebased none s
  match headerIn (sheetAt s1 n).body with
  | some h =>
    match h.startDepth with
    | some d => modifyEntry e (fun p => { p with tie := some { pb := d, cb := c0 } }) s1
    | none => startBench (modifyEntry e (fun p => { p with tie := none }) s1)
  | none => s1

/-- Create the loop context in ACQUIRING and set BEAM (R71, R100). -/
def createLoop (kind : LoopKind) (shallow deep : Nat) (target : ConstTarget) (s : State) : State :=
  withPause (fun p => { p with beam := true })
    { s with gl := { s.gl with loop := some {
      kind := kind, state := .acquiring, shallow := shallow, deep := deep, window := [],
      settle := s.clp.consts.settleCount, holdCount := 0, target := target, record := none } } }

/-- The start actions of a DIG, in order (R145). -/
def startDig (n : Fin 6) (k0 : Nat) (e : Fin 8) (c0 : Option Nat) (s : State) : State :=
  let s1 := match c0 with
    | some c => setTheChainage c s
    | none => s
  let c := chainage s1
  let s2 := makeActive e s1
  let s3 := { s2 with cc := { s2.cc with chw := some c } }
  let s4 := createRun n k0 c (firstTie n e c s3)
  match headerIn (sheetAt s4 n).body with
  | some h => createLoop .dig h.shallow h.deep .absent s4
  | none => s4

/-- What an operation record holds while it executes, changed by a function, at the head. -/
def modifyHead (f : RunInfo → RunInfo) (s : State) : State :=
  match s.oq.ops with
  | [] => s
  | op :: rest =>
    match op.state with
    | .waiting => s
    | .executing info =>
      { s with oq := { s.oq with ops := { op with state := .executing (f info) } :: rest } }

/-- The start actions of a HOLD (R148): cycle 1 from the chainage as it stands, and the loop context with the
given target or an unlatched one. -/
def startHold (target : Option Nat) (s : State) : State :=
  createLoop .hold s.clp.consts.holdShallowBand s.clp.consts.holdDeepBand
    (match target with
      | some d => .given d
      | none => .unlatched)
    (modifyHead (fun i => { i with cycles := 1, cycleChainage := chainage s }) s)

/-- The start actions of a DWELL: cycle 1 and the DWELL timer (R151). -/
def startDwell (time : Nat) (s : State) : State :=
  let s1 := modifyHead (fun i => { i with cycles := 1, cycleTime := s.clock }) s
  { s1 with oq := { s1.oq with dwellTimer := some (after s.clock time) } }

/-- The start actions of an operation that has passed its checks (R145, R147, R148, R150, R151). -/
def startActions (p : OpParams) (s : State) : State :=
  match p with
  | .dig n k0 e c0 => startDig n k0 e c0 s
  | .plunge d => createLoop .plunge s.clp.consts.holdShallowBand s.clp.consts.holdDeepBand (.given d) s
  | .hold target _ => startHold target s
  | .lift => handOn s.clp.consts.liftDrive s
  | .dwell time => startDwell time s

/-- A LIFT that starts with the stroke already at the top completes at once (R150). -/
def liftDoneAtOnce (p : OpParams) (s : State) : Bool :=
  match p with
  | .lift => decide (s.clp.consts.strokeTop ≤ strokeSeen s)
  | _ => false

/-- Start the head, and in its turn every operation that becomes the head because the one before it failed
its start check or completed at once (R143, R150, R155 step 5). The first argument bounds the operations
tried and is never short: it is given as one more than their number. -/
def startHead : Nat → State → State
  | 0, s => s
  | fuel + 1, s =>
    match s.oq.ops with
    | [] => idleSequencer s
    | op :: _ =>
      let s1 := markStarted s
      match startCheck op.params s1 with
      | some why => startHead fuel (leaveQueue .failed why s1)
      | none =>
        if liftDoneAtOnce op.params s1 then startHead fuel (leaveQueue .done .top s1)
        else startActions op.params s1

/-- The head leaves the queue by a completion or a soft abort, and the next starts (R155). -/
def completeHead (out : OpOutcome) (why : OpReason) (s : State) : State :=
  let s1 := leaveQueue out why s
  startHead (s1.oq.ops.length + 1) s1

/-! ## Cycles -/

/-- A new cycle of a standing HOLD or DWELL begins (R149). -/
def newCycle (p : OpParams) (s : State) : State :=
  match p with
  | .hold .. => modifyHead (fun i => { i with cycles := countOne i.cycles, cycleChainage := chainage s }) s
  | .dwell time =>
    let s1 := modifyHead (fun i => { i with cycles := countOne i.cycles, cycleTime := s.clock }) s
    { s1 with oq := { s1.oq with dwellTimer := some (after s.clock time) } }
  | _ => s

/-- A cycle of the executing HOLD or DWELL ends (R148, R149, R151). -/
def endCycle (why : OpReason) (s : State) : State :=
  match s.oq.ops with
  | [] => s
  | op :: rest =>
    if op.standing && rest.isEmpty then newCycle op.params s else completeHead .done why s

/-! ## The boundary of the current segment -/

/-- The wait that begins at the run end: a machine that stands completes the DIG at once (R29, R65). -/
def completeIfStill (out : OpOutcome) (why : OpReason) (s : State) : State :=
  if s.cc.still = .still then completeHead out why s else s

/-- The test of chw against the boundary of the current segment, repeated after each exchange (R57 to R59,
R64). The first argument bounds the exchanges and is never short: a sheet holds no more segments. -/
def boundaryTest : Nat → State → State
  | 0, s => s
  | fuel + 1, s =>
    match s.lt, s.cc.chw with
    | some r, some high =>
      if r.phase = .running ∧ endChainage r.cur ≤ high then
        match r.staged with
        | some st =>
          if !r.cur.stopAtEnd && advancesAlone r s then boundaryTest fuel (exchange s) else holdAtEnd r st s
        | none => completeIfStill .done .runEnd (reachEnd r s)
      else s
    | _, _ => s

/-- The boundary test of R57 with the bound the sheet gives. -/
def testBoundary (s : State) : State :=
  match s.lt with
  | some r => boundaryTest ((segmentsOf (sheetAt s r.sheet).body).length + 1) s
  | none => s

end Sys2Proof.Machine
end

