-- ==== Sys2Proof/Machine/Beam.lean ====
section
/-! DEFINITION. Beam loss and search (spec/06): the loop states, what enters and leaves each of them, and
the timers of tracking, of a search and of the LOST drive. -/

namespace Sys2Proof.Machine

/-! ## Tilt and measured depth (section 5.2), which the regaining of a beam reports -/

/-- The tilt sample a measured depth is formed with: the latest one, or 0 during a shadow run (R74). -/
def tiltSample (s : State) : Int := if s.sm.isSome then 0 else s.os.tilt

/-- A sample quantised to tenths of a degree (R74). -/
def tiltTenths (sample : Int) : Int := roundDiv sample 10

/-- The tilt as clamped (R74). -/
def clampTilt (t : Int) : Int := clampInt (-120) 120 t

/-- The tilt of a measured depth formed now (R74). -/
def tiltNow (s : State) : Int := clampTilt (tiltTenths (tiltSample s))

/-- The tilt drop of a mast of length L at tilt t (R75). -/
def tiltDrop (mast : Nat) (t : Int) : Nat := (roundDiv ((mast : Int) * (t * t)) 656560).toNat

/-- The measured depth of a beam offset, formed now (R75, R76). -/
def measuredDepth (b : Int) (s : State) : Int :=
  (s.clp.consts.mastLength : Int) - (tiltDrop s.clp.consts.mastLength (tiltNow s) : Int) + b

/-- TILT_CLAMP fires at a computation in which the clamp changes the tilt (R74). -/
def fireTiltClamp (user : TiltUser) (s : State) : State :=
  if tiltNow s = tiltTenths (tiltSample s) then s else fire (.tiltClamp (tiltSample s) (tiltNow s) user) s

/-! ## Names, levels and signs -/

/-- The name of a loop state. -/
def loopName : LoopState → LoopName
  | .acquiring => .acquiring
  | .tracking _ => .tracking
  | .coasting _ _ => .coasting
  | .searching .up _ _ _ _ _ => .searchUp
  | .searching .down _ _ _ _ _ => .searchDown
  | .lost _ => .lost

/-- The state a search is entered from by a strike; a search is entered from these three alone (R105). -/
def searchFrom : LoopState → SearchFrom
  | .acquiring => .acquiring
  | .coasting _ _ => .coasting
  | _ => .tracking

/-- The other direction. -/
def reversed : Direction → Direction
  | .up => .down
  | .down => .up

/-- The drive level of a direction and a level: positive to raise the boom (R105). -/
def driveOf (dir : Direction) (level : Nat) : Int :=
  match dir with
  | .up => level
  | .down => -(level : Int)

/-- The full search level (R105, R112). -/
def fullLevel (k : Constants) : Nat := max k.searchDrive k.driveMin

/-- The level after a flip or a reversal in LOST (R107, R112). -/
def halvedLevel (k : Constants) (level : Nat) : Nat := max (level / 2) k.driveMin

/-! ## Entering the states -/

/-- TRACKING with the beam-age timer started now (R102). -/
def trackingNow (s : State) : LoopState := .tracking (after s.clock s.clp.consts.lossTime)

/-- BEAM is removed from the pause-reason set. -/
def removeBeam : State → State := withPause fun p => { p with beam := false }

/-- Enter COASTING: V becomes 0 and the coast starts at the chainage as it stands (R104). -/
def enterCoasting (s : State) : State := setLoopState (.coasting (chainage s) s.clock) (handOn 0 s)

/-- Enter a search (R105). -/
def enterSearch (left : SearchFrom) (dir : Direction) (s : State) : State :=
  let level := fullLevel s.clp.consts
  let due := after s.clock s.clp.consts.searchTime
  let s1 := handOn (driveOf dir level) (setLoopState (.searching dir level (chainage s) due 0 s.clock) s)
  fire (.beamSearch dir left level) s1

/-- What BEAM_LOST reports of the state left: its flip count, its start chainage and its start time; a coast
has made no flip (R116). -/
def lossFields : LoopState → Nat × Nat × Time
  | .coasting start since => (0, start, since)
  | .searching _ _ start _ flips since => (flips, start, since)
  | _ => (0, 0, 0)

/-- Enter LOST from a coast or a search (R111). -/
def enterLost (cause : LostCause) (left : LoopState) (s : State) : State :=
  let (flips, start, since) := lossFields left
  let s1 := withPause (fun p => { p with beam := true, resumeWait := false }) (handOn 0 s)
  let advance := (chainage s : Int) - (start : Int)
  fire (.beamLost cause (loopName left) flips advance (s.clock - since)) (setLoopState (.lost none) s1)

/-! ## Strikes that are not IN_WINDOW -/

/-- A strike of the opposite status turns a search, or loses the beam at the third flip (R107). -/
def flipSearch (dir : Direction) (level start : Nat) (due : Time) (flips : Nat) (since : Time) (s : State) :
    State :=
  if 3 ≤ flips + 1 then enterLost .flips (.searching dir level start due (flips + 1) since) s
  else
    let level' := halvedLevel s.clp.consts level
    handOn (driveOf (reversed dir) level')
      (setLoopState (.searching (reversed dir) level' start due (flips + 1) since) s)

/-- The LOST drive started or reversed, with its timer and its V (R112). -/
def startLostDrive (dir : Direction) (level : Nat) (s : State) : State :=
  let due := after s.clock s.clp.consts.searchTime
  handOn (driveOf dir level) (setLoopState (.lost (some { dir := dir, level := level, due := due })) s)

/-- An ABOVE (UP) or BELOW (DOWN) strike in LOST (R112). -/
def strikeInLost (dir : Direction) (drive : Option LostDrive) (s : State) : State :=
  match drive with
  | none => startLostDrive dir (fullLevel s.clp.consts) s
  | some d =>
    if d.dir = dir then
      setLoopState (.lost (some { d with due := after s.clock s.clp.consts.searchTime })) s
    else startLostDrive dir (halvedLevel s.clp.consts d.level) s

/-- An ABOVE (UP) or BELOW (DOWN) strike of the ACTIVE entry (R101, R103, R104, R107, R112). -/
def strikeOutside (dir : Direction) (st : LoopState) (s : State) : State :=
  match st with
  | .searching d level start due flips since =>
    if d = dir then s else flipSearch d level start due flips since s
  | .lost drive => strikeInLost dir drive s
  | _ => enterSearch (searchFrom st) dir s

/-! ## A valid IN_WINDOW strike -/

/-- The beam is regained from a coast or a search (R110) or from LOST (R113), D being the measured depth of
the regaining strike. BEAM_REGAINED fires here, before the computation of the strike (log 16). -/
def regain (st : LoopState) (d : Int) (s : State) : State :=
  let s1 := removeBeam (clearWindow (setLoopState (trackingNow s) s))
  match st with
  | .searching .. => fire (.beamRegained (loopName st) s1.oq.pause.resumeWait d) s1
  | .lost _ =>
    let s2 := withPause (fun p => { p with resumeWait := true }) s1
    fire (.beamRegained .lost true d) s2
  | _ => s1

/-- The transition a valid IN_WINDOW strike of the ACTIVE entry makes before it is computed: TRACKING from
every state, with the beam-age timer started (R101, R102, R110, R113). -/
def beamSeen (st : LoopState) (d : Int) (s : State) : State :=
  match st with
  | .acquiring => removeBeam (setLoopState (trackingNow s) s)
  | .tracking _ => setLoopState (trackingNow s) s
  | _ => regain st d s

/-! ## The limits of distance (R106, R108) -/

/-- The chainage has passed the coast or search start by more than the distance allowed. -/
def loopLimit (s : State) : Option LostCause :=
  match s.gl.loop with
  | none => none
  | some l =>
    match l.state with
    | .coasting start _ => if start + s.clp.consts.coastDist < chainage s then some .coast else none
    | .searching _ _ start _ _ _ => if start + s.clp.consts.searchDist < chainage s then some .distance else none
    | _ => none

/-- The loop's watch of each chainage handed on (R106, R108). -/
def watchLoop (s : State) : State :=
  match loopLimit s, s.gl.loop with
  | some cause, some l => enterLost cause l.state s
  | _, _ => s

/-! ## The timers -/

/-- BEAM_AGE_TIMER_EXPIRY: a tracking loop enters COASTING (R102, R104). -/
def execBeamAgeTimerExpiry (s : State) : Host.Outcome State Fault Refusal :=
  match s.gl.loop with
  | some l =>
    match l.state with
    | .tracking _ => .next (formPermit (enterCoasting s))
    | _ => .next s
  | none => .next s

/-- SEARCH_TIMER_EXPIRY: a search ends in LOST with cause TIME (R108). -/
def execSearchTimerExpiry (s : State) : Host.Outcome State Fault Refusal :=
  match s.gl.loop with
  | some l =>
    match l.state with
    | .searching .. => .next (formPermit (enterLost .time l.state s))
    | _ => .next s
  | none => .next s

/-- LOST_DRIVE_TIMER_EXPIRY: the LOST drive becomes NONE and V 0 (R112). -/
def execLostDriveTimerExpiry (s : State) : Host.Outcome State Fault Refusal :=
  match s.gl.loop with
  | some l =>
    match l.state with
    | .lost (some _) => .next (handOn 0 (setLoopState (.lost none) s))
    | _ => .next s
  | none => .next s

end Sys2Proof.Machine
end

