-- ==== Sys2Proof/Machine/Grade.lean ====
section
/-! DEFINITION. The Grade Loop (spec/05): the target, the error window, the three-way decision, the drive
magnitude, the slew limiter, the holds and limits, and the step a routed strike takes. -/

namespace Sys2Proof.Machine

/-! ## The target -/

/-- The plane elevation at a chainage of an entry with this slope and tie (R77). -/
def planeElevation (slope : Int) (t : Tie) (c : Nat) : Int :=
  t.pb + roundDiv (slope * ((c : Int) - (t.cb : Int))) 100000

/-- The target of a strike in a DIG with what the decision record says of the line, or none (R78). -/
def digTarget (e : Fin 8) (c : Nat) (s : State) : Option (Int × Option LinePart) :=
  match s.lt, (entryAt s e).tie with
  | some r, some t =>
    match targetAnswer r c with
    | some (ct, invert) =>
      let p := planeElevation (entryAt s e).slope t ct
      some (p - invert, some { ct := ct, plane := p, invert := invert })
    | none => none
  | _, _ => none

/-- The target stage of a strike, once a HOLD has latched (R78 to R81). -/
def strikeTarget (q : QStrike) (l : LoopCtx) (s : State) : Option (Int × Option LinePart) :=
  match l.target with
  | .absent => digTarget q.entry q.chainage s
  | .given d => some (d, none)
  | .latched d => some (d, none)
  | .unlatched => none

/-- The first strike that reaches the target stage of an unlatched HOLD latches its measured depth (R80). -/
def latchTarget (d : Int) (s : State) : State :=
  match s.gl.loop with
  | some l =>
    match l.target with
    | .unlatched => clearWindow (modifyLoop (fun x => { x with target := .latched d }) s)
    | _ => s
  | none => s

/-! ## Error, decision and drive -/

/-- The error window after a raw error: the four most recent, oldest first (R83). -/
def pushError (window : List Int) (e : Int) : List Int :=
  let w := window ++ [e]
  if 4 < w.length then w.drop 1 else w

/-- The filtered error: the mean of the window (R84). -/
def filteredError (window : List Int) : Int := roundDiv window.sum window.length

/-- The three-way decision (R86). -/
def decide3 (shallow deep : Nat) (ef : Int) : Decision :=
  if ef < -(shallow : Int) then .lower else if (deep : Int) < ef then .raise else .hold

/-- The magnitude of a correction for an excess over the band (R88). -/
def magnitude (k : Constants) (settle : Nat) (excess : Nat) : Nat :=
  min k.driveMax (k.driveMin + k.gain * excess / (if settle = 0 then 10 else 20))

/-- The wanted level (R88). -/
def wantedLevel (k : Constants) (shallow deep settle : Nat) (d : Decision) (ef : Int) : Int :=
  match d with
  | .raise => magnitude k settle (ef - deep).toNat
  | .lower => -(magnitude k settle (-ef - shallow).toNat : Int)
  | _ => 0

/-- The slew limiter (R90). -/
def slewLevel (slew : Nat) (v wanted : Int) : Int :=
  if wanted = 0 then 0
  else if (0 < wanted ∧ v < 0) ∨ (wanted < 0 ∧ 0 < v) then 0
  else if wanted.natAbs ≤ v.natAbs then wanted
  else
    let m : Int := min wanted.natAbs (v.natAbs + slew)
    if 0 < wanted then m else -m

/-- The reverse-travel hold: a DIG's strike stamped more than 50 mm behind chw (R91). -/
def behindHighWater (kind : LoopKind) (chw : Option Nat) (c : Nat) : Bool :=
  match kind, chw with
  | .dig, some h => decide (c + 50 < h)
  | _, _ => false

/-- The stroke limit that cuts a drive level (R92, R93). -/
def limitOf (k : Constants) (stroke : Nat) (v : Int) : LimitMark :=
  if stroke ≤ k.strokeBottom ∧ v < 0 then .bottom
  else if k.strokeTop ≤ stroke ∧ 0 < v then .top
  else .none

/-- REACH is set, and REACH_LIMIT fires when it was absent, with the stroke and the level cut (R92). -/
def setReach (v : Int) (s : State) : State :=
  let s1 := withPause (fun p => { p with reach := true }) s
  if s.oq.pause.reach then s1 else fire (.reachLimit (strokeSeen s) v) s1

/-- REACH is removed (R95). -/
def clearReach : State → State := withPause fun p => { p with reach := false }

/-- The hold count after a decision; it is kept for a PLUNGE alone (R87). -/
def nextHoldCount (kind : LoopKind) (d : Decision) (n : Nat) : Nat :=
  match kind, d with
  | .plunge, .hold => n + 1
  | .plunge, _ => 0
  | _, _ => n

/-- What a decision and a limit do to REACH: the bottom limit sets it, RAISE or HOLD removes it (R92, R95). -/
def reachAfter (d : Decision) (limit : LimitMark) (cut : Int) (s : State) : State :=
  match limit, d with
  | .bottom, _ => setReach cut s
  | _, .lower => s
  | _, _ => clearReach s

/-! ## The step of a strike -/

/-- A strike with no target: V becomes 0 and the record says NONE (R79). The wanted and the slewed level of such a
record, for which the spec gives no value, are recorded as 0 (DESIGN CHOICE, log 37). -/
def strikeWithoutTarget (q : QStrike) (depth : Int) (l : LoopCtx) (s : State) : State :=
  modifyLoop (fun x => { x with record := some {
      chainage := q.chainage, tilt := tiltNow s, drop := tiltDrop s.clp.consts.mastLength (tiltNow s),
      depth := depth, line := none, errors := none, decision := .none, wanted := 0, slewed := 0, final := 0,
      settle := l.settle, reverseHold := false, limit := .none } }) (handOn 0 s)

/-- A strike with a target: error, decision, magnitude, slew, holds and limits, hand-on and record (R83 to
R96), with the completion of a settled PLUNGE (R87). -/
def strikeWithTarget (q : QStrike) (depth target : Int) (line : Option LinePart) (l : LoopCtx) (s : State) :
    State :=
  let k := s.clp.consts
  let window := pushError l.window (depth - target)
  let ef := filteredError window
  let d := decide3 l.shallow l.deep ef
  let wanted := wantedLevel k l.shallow l.deep l.settle d ef
  let slewed := slewLevel k.slew s.gl.v wanted
  let hold := behindHighWater l.kind s.cc.chw q.chainage
  let held := if hold then 0 else slewed
  let limit := limitOf k (strokeSeen s) held
  let final := if limit = .none then held else 0
  let count := nextHoldCount l.kind d l.holdCount
  let errors : ErrorPart := { target := target, error := depth - target, filtered := ef, count := window.length }
  let record : DecisionRecord := {
    chainage := q.chainage, tilt := tiltNow s, drop := tiltDrop k.mastLength (tiltNow s), depth := depth,
    line := line, errors := some errors, decision := d, wanted := wanted, slewed := slewed, final := final,
    settle := l.settle - 1, reverseHold := hold, limit := limit }
  let s1 := handOn final (reachAfter d limit held s)
  let s2 := modifyLoop (fun x => { x with window := window, settle := l.settle - 1, holdCount := count,
                                          record := some record }) s1
  if l.kind = .plunge ∧ 3 ≤ count then completeHead .done .settled s2 else s2

/-- The tracking computation of sections 5.2 to 5.9. -/
def computeStrike (q : QStrike) (b : Int) (s : State) : State :=
  let depth := measuredDepth b s
  let s1 := latchTarget depth (fireTiltClamp .gradeLoop s)
  match s1.gl.loop with
  | none => s1
  | some l =>
    match strikeTarget q l s1 with
    | some (t, line) => strikeWithTarget q depth t line l s1
    | none => strikeWithoutTarget q depth l s1

/-- The step the Grade Loop makes on a strike handed to it (R73). -/
def loopStrike (q : QStrike) (s : State) : State :=
  match s.gl.loop with
  | none => s
  | some l =>
    if activeEntry s = some q.entry then
      match q.beam with
      | .inWindow b => computeStrike q b (beamSeen l.state (measuredDepth b s) s)
      | .above => strikeOutside .up l.state s
      | .below => strikeOutside .down l.state s
      | .split => s
    else s

/-- GRADE_LOOP_STRIKE: the Grade Loop takes the strike handed to it and finishes it (R12, R73). -/
def execGradeLoopStrike (s : State) : Host.Outcome State Fault Refusal :=
  match s.sq.toLoop with
  | some q => .next (formPermit (loopStrike q { s with sq := { s.sq with toLoop := none } }))
  | none => .next s

/-- The two stroke limits at a stroke sample, whatever set V (R94), and the removal of REACH above the bottom
(R95). -/
def limitAtSample (s : State) : State :=
  let s1 := match limitOf s.clp.consts (strokeSeen s) s.gl.v with
    | .bottom => setReach s.gl.v (handOn 0 s)
    | .top => handOn 0 s
    | .none => s
  if s.clp.consts.strokeBottom < strokeSeen s then clearReach s1 else s1

end Sys2Proof.Machine
end

