-- ==== Sys2Proof/Machine/Ties.lean ====
section
/-! DEFINITION. The Tie Engine (spec/07): the bench collector, the pairing of strikes of two planes, the
completion, the transfer, the limits, and the requests TIE_START, TIE_COMMIT, TIE_CANCEL and READ_TIE. -/

namespace Sys2Proof.Machine

/-! ## The bench -/

/-- The bench collector, when there is one, changed by a function. -/
def modifyBench (f : Bench → Bench) (s : State) : State :=
  { s with te := { s.te with bench := s.te.bench.map f } }

/-- A restart for movement, with its new wait for the machine to stand (R122). -/
def restartForMovement (s : State) : State :=
  countBenchRestart (modifyBench (fun b => { b with
    sampling := decide (s.cc.still = .still), samples := [], reference := none,
    moveRestarts := countOne b.moveRestarts }) s)

/-- A restart for spread; the collector stays in SAMPLING (R123). -/
def restartForSpread (s : State) : State :=
  countBenchRestart (modifyBench (fun b => { b with
    samples := [], reference := none, spreadRestarts := countOne b.spreadRestarts }) s)

/-- Two chainages differ by more than 20 mm, in either direction (R121, R122). -/
def movedFrom (reference c : Nat) : Bool := decide (reference + 20 < c) || decide (c + 20 < reference)

/-- The run phase set to RUNNING, with the boundary test made at that entry (R57, R123). -/
def enterRunning (r : RunCtx) (s : State) : State := testBoundary { s with lt := some { r with phase := .running } }

/-- The bench is done, in the order of R123. -/
def finishBench (e : Fin 8) (b : Bench) (r : RunCtx) (s : State) : State :=
  let t : Tie := { pb := roundDiv b.samples.sum b.samples.length, cb := r.c0 }
  let s1 := modifyEntry e (fun p => { p with tie := some t }) s
  let s2 := fire (.benchDone e t (spreadOf b.samples) b.samples.length b.moveRestarts b.spreadRestarts) s1
  let s3 := withPause (fun p => { p with bench := false }) s2
  enterRunning r { s3 with te := { s3.te with bench := none } }

/-- A full sample list is judged (R123). -/
def judgeBench (e : Fin 8) (b : Bench) (s : State) : State :=
  if (s.clp.consts.tieTolerance : Int) < spreadOf b.samples then restartForSpread s
  else
    match s.lt with
    | some r => finishBench e b r s
    | none => s

/-- A valid strike taken in SAMPLING (R121 case 4). -/
def sampleBench (q : QStrike) (offset : Int) (b : Bench) (s : State) : State :=
  let depth := measuredDepth offset s
  let s1 := fireTiltClamp .bench s
  let reference := b.reference.getD q.chainage
  if movedFrom reference q.chainage then restartForMovement s1
  else
    let b' := { b with samples := b.samples ++ [depth], reference := some reference }
    let s2 := modifyBench (fun _ => b') s1
    if s2.clp.consts.benchStrikes ≤ b'.samples.length then judgeBench q.entry b' s2 else s2

/-- The step of the bench collector on a strike (R121). -/
def benchStep (q : QStrike) (s : State) : State :=
  if activeEntry s = some q.entry then
    match q.beam, s.te.bench with
    | .inWindow offset, some b => if b.sampling then sampleBench q offset b s else s
    | _, _ => s
  else s

/-- BENCH_STRIKE: the bench collector takes the strike handed to it and finishes it (R12, R121). -/
def execBenchStrike (s : State) : Host.Outcome State Fault Refusal :=
  match s.sq.toBench with
  | some q => .next (formPermit (benchStep q { s with sq := { s.sq with toBench := none } }))
  | none => .next s

/-- The bench's watch of each chainage handed on (R122). -/
def watchBench (s : State) : State :=
  match s.te.bench with
  | none => s
  | some b =>
    match b.reference with
    | none => s
    | some reference => if b.sampling && movedFrom reference (chainage s) then restartForMovement s else s

/-! ## The transfer -/

/-- The loop state found at a transfer is one that the new entry's last strike sets afresh (R132). -/
def setAfreshAtTransfer : LoopState → Bool
  | .acquiring => false
  | .lost _ => false
  | _ => true

/-- TRACKING entered at a transfer: the beam-age timer from the last strike's time, V cut to DRIVE_MAX and BEAM
removed (R115). -/
def trackAtTransfer (last : LastStrike) (s : State) : State :=
  let limit : Int := s.clp.consts.driveMax
  let s1 := removeBeam (setLoopState (.tracking (after last.time s.clp.consts.lossTime)) s)
  if clampInt (-limit) limit s.gl.v = s.gl.v then s1 else handOn (clampInt (-limit) limit s.gl.v) s1

/-- The loop state set afresh from the new ACTIVE entry's last strike (R132). -/
def loopFromLast (last : Option LastStrike) (s : State) : State :=
  match last with
  | none => enterCoasting s
  | some k =>
    match k.beam with
    | .inWindow _ =>
      if elapsed s.clock k.time < s.clp.consts.lossTime then trackAtTransfer k s else enterCoasting s
    | .above => enterSearch .transfer .up s
    | .below => enterSearch .transfer .down s
    | .split => enterCoasting s

/-- The loop state after a transfer (R115, R132). -/
def loopAtTransfer (last : Option LastStrike) (l : LoopCtx) (s : State) : State :=
  match l.state with
  | .acquiring => s
  | .lost _ => handOn 0 (setLoopState (.lost none) s)
  | _ => loopFromLast last s

/-- The Grade Loop is told of the transfer (R82). -/
def tellTransfer (s : State) : State :=
  clearWindow (modifyLoop (fun l => match l.target with
    | .latched _ => { l with target := .unlatched }
    | _ => l) s)

/-- Steps 3 and 4 of R131: the loop context is told and its state set. -/
def transferLoop (e : Fin 8) (s : State) : State :=
  match s.gl.loop with
  | none => s
  | some l => loopAtTransfer (entryAt s e).last l (tellTransfer s)

/-- Hand the active role to the candidate, in the order of R131. A tie in flight has an ACTIVE entry beside its
candidate; with none the event names the candidate itself (log 23). -/
def transfer (r : TieRecord) (result : TieResult) (s : State) : State :=
  let e := r.candidate
  let old := activeEntry s
  let s1 := modifyEntry e (fun p => { p with role := .active, tie := some result.tie }) s
  let s2 := match old with
    | some i => modifyEntry i (fun p => { p with role := .retired }) s1
    | none => s1
  let s3 := transferLoop e s2
  let s4 := fire (.transfer e (old.getD e) result.tie (s3.gl.loop.map fun l => loopName l.state)) s3
  { s4 with te := { s4.te with tie := none, last := some (.transferred e result.tie result.spread) } }

/-! ## Pairing -/

/-- A pair of strikes agrees in chainage and in time (R126); the offered strike is the later in time. -/
def agree (k : Constants) (offered held : SlotStrike) : Bool :=
  decide (offered.chainage ≤ held.chainage + k.pairWindow)
    && decide (held.chainage ≤ offered.chainage + k.pairWindow)
    && decide (elapsed offered.time held.time ≤ k.pairTime)

/-- The slope term that carries an estimate back to the reference chainage (R127 step 4). -/
def carryBack (slope : Int) (c cRef : Nat) : Int := roundDiv (slope * ((c : Int) - (cRef : Int))) 100000

/-- The collection is complete (R128). -/
def completeTie (r : TieRecord) (s : State) : State :=
  let estimates := r.pairs.map (·.estimate)
  let spread := spreadOf estimates
  let mean := roundDiv estimates.sum estimates.length
  if (s.clp.consts.tieTolerance : Int) < spread then endTie .spread (some spread) s
  else if mean < -10000 ∨ 10000 < mean then endTie .range none s
  else
    let result : TieResult := { tie := { pb := mean, cb := r.cRef.getD 0 }, spread := spread }
    let s1 := fire (.tieDone r.candidate result.tie spread r.n r.mode) s
    match r.mode with
    | .auto => transfer r result s1
    | .confirm =>
      modifyTie (fun t => { t with timer := none, activeSlot := none, candidateSlot := none,
                                   result := some result }) s1

/-- A pair of an ACTIVE and a CANDIDATE strike is appended to the list, which is tested for completion (R126,
R127). -/
def formPair (r : TieRecord) (a b : SlotStrike) (activeTie : Tie) (activeSlope : Int) (s : State) : State :=
  let cRef := r.cRef.getD a.chainage
  let q := planeElevation activeSlope activeTie a.chainage + b.depth - a.depth
  let estimate := q - carryBack (entryAt s r.candidate).slope a.chainage cRef
  let r' := { r with activeSlot := none, candidateSlot := none, cRef := some cRef,
                     pairs := r.pairs ++ [{ chainage := a.chainage, estimate := estimate }] }
  let s1 := modifyTie (fun _ => r') s
  if r.n ≤ r'.pairs.length then completeTie r' s1 else s1

/-- The ACTIVE entry's slope and tie, when it holds a tie. -/
def activePlane (s : State) : Option (Int × Tie) :=
  match activeEntry s with
  | some i => (entryAt s i).tie.map fun t => ((entryAt s i).slope, t)
  | none => none

/-- A pair joined with the ACTIVE entry as it stands; an ACTIVE entry without a tie forms none (log 23). -/
def joinPair (r : TieRecord) (a b : SlotStrike) (s : State) : State :=
  match activePlane s with
  | some (slope, t) => formPair r a b t slope s
  | none => s

/-- A strike offered for pairing (R126). -/
def offerPair (stream : TieStream) (x : SlotStrike) (r : TieRecord) (s : State) : State :=
  match stream with
  | .candidate =>
    match r.activeSlot with
    | some a =>
      if agree s.clp.consts x a then joinPair r a x s
      else modifyTie (fun t => { t with candidateSlot := some x }) s
    | none => modifyTie (fun t => { t with candidateSlot := some x }) s
  | .active =>
    match r.candidateSlot with
    | some b =>
      if agree s.clp.consts x b then joinPair r x b s
      else modifyTie (fun t => { t with activeSlot := some x }) s
    | none => modifyTie (fun t => { t with activeSlot := some x }) s

/-- The role a strike was routed to the Tie Engine under (R125). -/
def streamRole : TieStream → Role
  | .candidate => .candidate
  | .active => .active

/-- The step of the Tie Engine on a strike or a copy (R125). -/
def tieStep (stream : TieStream) (q : QStrike) (s : State) : State :=
  match s.te.tie with
  | none => s
  | some r =>
    if r.result.isNone && (entryAt s q.entry).role == streamRole stream then
      match q.beam with
      | .inWindow b =>
        offerPair stream { depth := measuredDepth b s, chainage := q.chainage, time := q.time } r
          (fireTiltClamp .tie s)
      | _ => s
    else s

/-- TIE_STRIKE: the Tie Engine takes the strike handed to it and finishes it (R12, R125). -/
def execTieStrike (s : State) : Host.Outcome State Fault Refusal :=
  match s.sq.toTie with
  | some (stream, q) => .next (formPermit (tieStep stream q { s with sq := { s.sq with toTie := none } }))
  | none => .next s

/-! ## The limits -/

/-- The tie's watch of each chainage handed on while COLLECTING (R129). -/
def watchTie (s : State) : State :=
  match s.te.tie with
  | none => s
  | some r =>
    if r.result.isNone && decide (r.startChainage + s.clp.consts.tieDist < chainage s) then
      endTie .distance none s
    else s

/-- TIE_TIMER_EXPIRY: a COLLECTING tie ends with reason TIME (R129). -/
def execTieTimerExpiry (s : State) : Host.Outcome State Fault Refusal :=
  match s.te.tie with
  | some r => if r.timer.isSome then .next (endTie .time none s) else .next s
  | none => .next s

/-! ## The requests -/

/-- The named entry may be tied: STANDBY or RETIRED (R124). -/
def mayBeTied (r : Role) : Bool := r == .standby || r == .retired

/-- The tests of TIE_START in order, with the entry, the number of pairs and the mode it names (R124). -/
def tieStartTest (entry n mode : Nat) (s : State) : ResultCode ⊕ (Fin 8 × TieMode) :=
  match entryOf entry, tieModeOf mode with
  | some e, some m =>
    if !inRange 2 16 n then .inl .badValue
    else if tieInFlight s then .inl .busy
    else if (activePlane s).isNone || !mayBeTied (entryAt s e).role || s.os.faulted then .inl .state
    else .inr (e, m)
  | _, _ => .inl .badValue

/-- The tie record at the start (R124). -/
def newTie (e : Fin 8) (n : Nat) (mode : TieMode) (s : State) : TieRecord :=
  { candidate := e, n := n, mode := mode, startChainage := chainage s, startTime := s.clock,
    timer := some (after s.clock (1000 * s.clp.consts.tieTime)), activeSlot := none, candidateSlot := none,
    cRef := none, pairs := [], result := none }

/-- TIE_START (R124). -/
def execTieStart (tag entry n mode : Nat) (s : State) : Host.Outcome State Fault Refusal :=
  match tieStartTest entry n mode s with
  | .inl code => .next (refuse .tieStart tag code s)
  | .inr (e, m) =>
    let s1 := modifyEntry e (fun p => { p with role := .candidate, tie := none }) s
    .next (answer .tieStart tag .ok .none { s1 with te := { s1.te with tie := some (newTie e n m s) } })

/-- TIE_COMMIT (R130). -/
def execTieCommit (tag : Nat) (s : State) : Host.Outcome State Fault Refusal :=
  match s.te.tie with
  | none => .next (refuse .tieCommit tag .state s)
  | some r =>
    match r.result with
    | none => .next (refuse .tieCommit tag .state s)
    | some result => .next (answer .tieCommit tag .ok .none (formPermit (transfer r result s)))

/-- TIE_CANCEL (R133). -/
def execTieCancel (tag : Nat) (s : State) : Host.Outcome State Fault Refusal :=
  if tieInFlight s then .next (answer .tieCancel tag .ok .none (endTie .cancelled none s))
  else .next (refuse .tieCancel tag .state s)

/-- What READ_TIE shows of a tie in flight (R138). -/
def tieProgress (r : TieRecord) (s : State) : TieProgress :=
  { candidate := r.candidate, n := r.n, mode := r.mode, startChainage := r.startChainage,
    since := s.clock - r.startTime, advance := chainage s - r.startChainage, cRef := r.cRef,
    pairs := r.pairs.length, extremes := extremesOf (r.pairs.map (·.estimate)),
    activeSlot := r.activeSlot.map (·.chainage), candidateSlot := r.candidateSlot.map (·.chainage),
    result := r.result }

/-- What READ_TIE shows of a bench collector (R138). -/
def benchProgress (b : Bench) : BenchProgress :=
  { sampling := b.sampling, count := b.samples.length, extremes := extremesOf b.samples,
    reference := b.reference, moveRestarts := b.moveRestarts, spreadRestarts := b.spreadRestarts }

/-- The reply to READ_TIE (R138). -/
def tieReply (s : State) : TieReply :=
  { state := tieState s, progress := s.te.tie.map fun r => tieProgress r s, bench := s.te.bench.map benchProgress,
    last := s.te.last }

/-- READ_TIE (R138). -/
def execReadTie (tag : Nat) (s : State) : Host.Outcome State Fault Refusal :=
  .next (answer .readTie tag .ok (.tie (tieReply s)) s)

end Sys2Proof.Machine
end

