-- ==== Sys2Proof/Machine/Cab.lean ====
section
/-! DEFINITION. The Cab Line Port (spec/11): the receiver, address recognition, the requests of the port
itself, and the end of a reply. -/

namespace Sys2Proof.Machine

/-! ## The receiver -/

/-- The byte that starts a cab frame (R183). -/
def cabSync : Byte := 0x5A

/-- The longest body (R183). -/
def bodyTop : Nat := 48

/-- The receiver's state set. -/
def setCabRx (rx : LineRx) (s : State) : State := { s with clp := { s.clp with rx := rx } }

/-- A frame is dropped: counted in CAB_DROPPED, and the receiver hunts (R185). -/
def dropCabFrame (s : State) : State := countCabDropped (setCabRx .hunting s)

/-- A request received as a good frame waits in the port's hand to be taken by its owner (log 4). -/
def putInHand (r : Received) (s : State) : State := { s with clp := { s.clp with inHand := s.clp.inHand ++ [r] } }

/-- The receiver is held in HUNTING from a good addressed frame to the end of its reply (R187). -/
def holdReceiver (s : State) : State := { s with clp := { s.clp with held := true } }

/-- An addressed request, decoded in the order of R187: an unknown kind is answered by its own step
(UNKNOWN_KIND_REQUEST), a wrong length at once, leaving the requests in hand as they are, and any other request
waits for its owner. -/
def addressedRequest (kind tag : Nat) (body : List Byte) (s : State) : State :=
  match requestOfCode kind with
  | none =>
    putInHand { kind := kind, tag := tag, broadcast := false, command := .unknownKindRequest tag kind } (holdReceiver s)
  | some q =>
    if lengthMatches q body then
      putInHand { kind := kind, tag := tag, broadcast := false, command := requestCommand q tag body } (holdReceiver s)
    else sendReply kind tag .badLength .none s

/-- A broadcast frame: STOP with an empty body is acted on, once it is taken (log 30), and anything else ignored
(R186). -/
def broadcastFrame (kind tag : Nat) (body : List Byte) (s : State) : State :=
  if kind = requestCode .stop ∧ body = [] then
    putInHand { kind := kind, tag := tag, broadcast := true, command := .stop true tag } s
  else s

/-- A good frame handled by its address byte (R186). -/
def goodCabFrame (address kind tag : Nat) (body : List Byte) (s : State) : State :=
  if address % 16 ≠ 0 then s
  else if address / 16 = s.clp.address then addressedRequest kind tag body s
  else if address / 16 = 15 then broadcastFrame kind tag body s
  else s

/-- The CRC test of a whole frame (R183, R185): it is formed over all but the sync byte and the last two
bytes, which hold it. -/
def crcAgrees (frame : List Byte) : Bool :=
  let n := frame.length
  (crc16 ((frame.drop 1).take (n - 3))).toNat == beNat (frame.drop (n - 2))

/-- The last CRC byte has been collected (R185). -/
def checkCabFrame (frame : List Byte) (s : State) : State :=
  if crcAgrees frame then
    goodCabFrame (field frame 1 1) (field frame 2 1) (field frame 3 1) ((frame.drop 5).take (frame.length - 7))
      (setCabRx .hunting s)
  else dropCabFrame s

/-- A well-formed byte in COLLECTING (R185): a length above 48 drops the frame, the last CRC byte completes
it, and any other is collected. -/
def collectCabByte (data : Byte) (bytes : List Byte) (s : State) : State :=
  let frame := bytes ++ [data]
  if frame.length < 5 then setCabRx (.collecting frame (after s.clock gapTime)) s
  else if bodyTop < field frame 4 1 then dropCabFrame s
  else if frame.length < 7 + field frame 4 1 then setCabRx (.collecting frame (after s.clock gapTime)) s
  else checkCabFrame frame s

/-- A byte on the cab line (R185). -/
def takeCabByte (data : Byte) (stop : Bool) (s : State) : State :=
  match s.clp.rx with
  | .hunting =>
    if stop && data == cabSync then setCabRx (.collecting [data] (after s.clock gapTime)) s else s
  | .collecting bytes _ => if stop then collectCabByte data bytes s else dropCabFrame s

/-- CAB_BYTE: ignored while the receiver is held in HUNTING (R185, R187). -/
def execCabByte (data : Byte) (stop : Bool) (s : State) : Host.Outcome State Fault Refusal :=
  if s.clp.held then .next s else .next (takeCabByte data stop s)

/-- CAB_GAP_TIMER_EXPIRY: the frame is dropped (R185). -/
def execCabGapTimerExpiry (s : State) : Host.Outcome State Fault Refusal :=
  match s.clp.rx with
  | .collecting _ _ => .next (dropCabFrame s)
  | .hunting => .next s

/-- The request in the port's hand that is taken next, when nothing else is commanded (R187, log 1). -/
def requestTaken (s : State) : Option Instr := s.clp.inHand.head?.map (·.command)

/-- REPLY_COMPLETE: the last byte of the reply has been sent, and the receiver listens again (R187). -/
def execReplyComplete (s : State) : Host.Outcome State Fault Refusal :=
  match s.clp.reply with
  | some _ => .next { s with clp := { s.clp with reply := none, held := false } }
  | none => .next s

/-- UNKNOWN_KIND_REQUEST: answered BAD_KIND (R187). -/
def execUnknownKindRequest (tag kind : Nat) (s : State) : Host.Outcome State Fault Refusal :=
  .next (takeAndReply kind tag .badKind .none s)

/-! ## Flags, enables, reports and counters -/

/-- READ_FLAGS (R188). -/
def execReadFlags (tag : Nat) (s : State) : Host.Outcome State Fault Refusal :=
  .next (answer .readFlags tag .ok (.flags s.clp.flags s.clp.enables) s)

/-- The flags named in a mask cleared, and with LINE the foreign latch (R15, R188). -/
def clearFlags (mask : Mask) (s : State) : State :=
  { s with clp := { s.clp with flags := s.clp.flags &&& ~~~mask }
           sq := { s.sq with foreignLatch := s.sq.foreignLatch && !inMask mask lineNumber } }

/-- CLEAR_FLAGS (R188). -/
def execClearFlags (tag : Nat) (mask : Mask) (s : State) : Host.Outcome State Fault Refusal :=
  .next (answer .clearFlags tag .ok (.cleared (s.clp.flags &&& ~~~mask)) (clearFlags mask s))

/-- SET_ENABLES (R188). -/
def execSetEnables (tag : Nat) (mask : Mask) (s : State) : Host.Outcome State Fault Refusal :=
  .next (answer .setEnables tag .ok .none { s with clp := { s.clp with enables := mask } })

/-- POLL: the head record leaves the queue and goes into the reply with the number left (R189). -/
def execPoll (tag : Nat) (s : State) : Host.Outcome State Fault Refusal :=
  match s.clp.reports with
  | [] => .next (answer .poll tag .ok (.poll none 0) s)
  | r :: rest =>
    .next (answer .poll tag .ok (.poll (some r) rest.length) { s with clp := { s.clp with reports := rest } })

/-- READ_COUNTS: all ten counters placed in the reply and then set to 0 (R190). -/
def execReadCounts (tag : Nat) (s : State) : Host.Outcome State Fault Refusal :=
  .next (answer .readCounts tag .ok (.counts s.clp.counters) (withCounters (fun _ => Counters.zero) s))

/-! ## The machine constants -/

/-- GET_CONSTANT (R191). -/
def execGetConstant (tag id : Nat) (s : State) : Host.Outcome State Fault Refusal :=
  match constOfId id with
  | some c => .next (answer .getConstant tag .ok (.constantRow c (getConst s.clp.consts c) (constRow c)) s)
  | none => .next (refuse .getConstant tag .badValue s)

/-- A value of a constant clamped against its partner (R191). -/
def clampToPartner (k : Constants) (c : ConstId) (v : Nat) : Nat :=
  match c with
  | .driveMax => max v k.driveMin
  | .driveMin => min v k.driveMax
  | .strokeBottom => min v (k.strokeTop - 100)
  | .strokeTop => max v (k.strokeBottom + 100)
  | _ => v

/-- The value SET_CONSTANT leaves held: clamped to its range and then against its partner (R191). -/
def heldValue (k : Constants) (c : ConstId) (value : Int) : Nat :=
  clampToPartner k c (clampInt (constRow c).lo (constRow c).hi value).toNat

/-- The constants are held: an operation in the queue, a tie in flight, or a shadow run (R191). -/
def constantsHeld (s : State) : Bool := !s.oq.ops.isEmpty || tieInFlight s || s.sm.isSome

/-- SET_CONSTANT (R191). -/
def execSetConstant (tag id : Nat) (value : Int) (s : State) : Host.Outcome State Fault Refusal :=
  match constOfId id with
  | none => .next (refuse .setConstant tag .badValue s)
  | some c =>
    if constantsHeld s then .next (refuse .setConstant tag .state s)
    else
      let v := heldValue s.clp.consts c value
      .next (answer .setConstant tag (if (v : Int) = value then .ok else .clamped) (.constant c v)
        { s with clp := { s.clp with consts := putConst s.clp.consts v c } })

/-! ## Identity and status -/

/-- The revision number of this part (R192). -/
def revision : Nat := 1

/-- IDENTIFY (R192). -/
def execIdentify (tag : Nat) (s : State) : Host.Outcome State Fault Refusal :=
  .next (answer .identify tag .ok (.identify revision s.clp.address s.clock) s)

/-- The state of an operation by its name (section 8.1). -/
def opStatus : OpState → OpStatus
  | .waiting => .waiting
  | .executing _ => .executing

/-- What STATUS shows of the executing operation (R192). -/
def statusOp (s : State) : Option StatusOp :=
  (executing s).map fun (op, info) =>
    { kind := kindOf op.params, tag := op.tag, state := opStatus op.state, startTime := info.startTime }

/-- What STATUS shows of a run context (R50). -/
def statusRun (r : RunCtx) : StatusRun :=
  { sheet := r.sheet, k0 := r.k0, c0 := r.c0, base := r.base, phase := r.phase, index := r.cur.index,
    start := r.cur.cs, invert := r.cur.invert, finish := endChainage r.cur, staged := r.staged, frozen := r.frozen }

/-- What STATUS shows of a loop state: each field of R100 that is present. -/
def statusLoopState : LoopState → StatusLoopState
  | .acquiring => .acquiring
  | .tracking due => .tracking due
  | .coasting start _ => .coasting start
  | .searching dir level start due flips _ => .searching dir level start due flips
  | .lost drive => .lost drive

/-- What STATUS shows of a constant target (R80). -/
def statusTarget : ConstTarget → Option StatusTarget
  | .absent => none
  | .given d => some { depth := d, latched := false }
  | .latched d => some { depth := d, latched := true }
  | .unlatched => none

/-- What STATUS shows of a loop context (R71, R192). -/
def statusLoop (l : LoopCtx) : StatusLoop :=
  { kind := l.kind, state := statusLoopState l.state, shallow := l.shallow, deep := l.deep, window := l.window,
    settle := l.settle, holdCount := if l.kind = .plunge then some l.holdCount else none,
    target := statusTarget l.target, record := l.record }

/-- What STATUS shows of the shadow model: the gap with the distance run of it (R180, R192). -/
def statusShadow (s : State) (m : Shadow) : StatusShadow :=
  { stroke := m.stroke, ds := m.ds, gap := m.gap.map fun g => (g, chainage s - g.start) }

/-- The snapshot STATUS carries (R192). -/
def statusReply (s : State) : StatusReply :=
  { faulted := s.os.faulted, health := s.os.health, record := s.os.record, seq := s.oq.seq, op := statusOp s,
    pause := s.oq.pause, v := s.gl.v, raiseDuty := s.os.raiseDuty, lowerDuty := s.os.lowerDuty,
    permit := s.os.permit, pin := s.os.pin, stroke := s.os.stroke, tilt := s.os.tilt, chainage := chainage s,
    source := s.cc.source, chw := s.cc.chw, still := s.cc.still, run := s.lt.map statusRun,
    loop := s.gl.loop.map statusLoop, tieState := tieState s, shadow := s.sm.map (statusShadow s),
    lineOn := s.mlr.lineOn, flags := s.clp.flags, reports := s.clp.reports.length }

/-- STATUS (R192). -/
def execStatus (tag : Nat) (s : State) : Host.Outcome State Fault Refusal :=
  .next (answer .status tag .ok (.status (statusReply s)) s)

end Sys2Proof.Machine
end

