-- ==== Sys2Proof/Machine/Chainage.lean ====
section
/-! DEFINITION. The Chainage Counter (spec/02): steps of the wheel and of shadow travel with saturation and
the limit latch, the watchers a changed chainage is handed to, the stationary detector, and SET_CHAINAGE. -/

namespace Sys2Proof.Machine

/-- The greatest value of the accumulator, in micrometres (R26). -/
def accTop : Nat := 999999999

/-- The accumulator after a forward or backward step, saturated at its ends (R25, R26). -/
def steppedAcc (forward : Bool) (acc size : Nat) : Nat :=
  if forward then min (acc + size) accTop else acc - size

/-- The end a step was cut short or dropped at, if it was: a step past an end is cut short, and a step that
starts at the end it points to is dropped whole, whatever its size (R26, log 28). -/
def limitHit (forward : Bool) (acc size : Nat) : Option RangeEnd :=
  if forward then (if accTop < acc + size ∨ accTop ≤ acc then some .high else none)
  else (if acc < size ∨ acc = 0 then some .low else none)

/-- The limit latch after a step (R26): set by a cut, cleared by a step that leaves the accumulator away from
both limits, kept by a step that lands on a limit exactly. -/
def latchAfter (latch forward : Bool) (acc size : Nat) : Bool :=
  if (limitHit forward acc size).isSome then true
  else if 0 < steppedAcc forward acc size ∧ steppedAcc forward acc size < accTop then false
  else latch

/-- Apply a step to the accumulator, firing LINE when the latch is set by it (R25, R26). The event fires with
the accumulator as stepped and before the chainage is handed on (log 15). -/
def applyStep (forward : Bool) (size : Nat) (s : State) : State :=
  let s1 := { s with cc := { s.cc with acc := steppedAcc forward s.cc.acc size,
                                       limitLatch := latchAfter s.cc.limitLatch forward s.cc.acc size } }
  match limitHit forward s.cc.acc size with
  | some which => if s.cc.limitLatch then s1 else fire (.line (.chainageLimit which)) s1
  | none => s1

/-! ## The watchers -/

/-- A chainage above chw raises it, and the Line Tracker tests the boundary (R27, R57). -/
def raiseHighWater (s : State) : State :=
  match s.cc.chw with
  | some high =>
    if high < chainage s then testBoundary { s with cc := { s.cc with chw := some (chainage s) } } else s
  | none => s

/-- The time the machine must stand, in milliseconds (R28). -/
def stillTime : Nat := 1000

/-- The stationary detector on a chainage handed on (R28). -/
def detectMovement (s : State) : State :=
  if s.cc.anchor + 5 < chainage s ∨ chainage s + 5 < s.cc.anchor then
    { s with cc := { s.cc with anchor := chainage s, still := .moving,
                               stillTimer := some (after s.clock stillTime) } }
  else s

/-- The distance of the executing HOLD is reached (R148). -/
def holdReached (s : State) : Bool :=
  match executing s with
  | some (op, info) =>
    match op.params with
    | .hold _ distance => decide (info.cycleChainage + distance ≤ chainage s)
    | _ => false
  | none => false

/-- The queue's watch of each chainage handed on (R148). -/
def watchHold (s : State) : State := if holdReached s then endCycle .distance s else s

/-- Hand a changed chainage to the blocks that watch it, in the order R25 lists them (log 12). -/
def handChainage (s : State) : State :=
  watchHold (watchTie (watchBench (watchLoop (detectMovement (raiseHighWater s)))))

/-- A step of the wheel or of shadow travel: applied, and handed on when the whole-millimetre chainage changes
(R25, R32). -/
def stepChainage (forward : Bool) (size : Nat) (s : State) : State :=
  let s1 := applyStep forward size s
  if chainage s1 = chainage s then s1 else handChainage s1

/-! ## The wheel -/

/-- The pair that follows a pair in the forward order (section 2.1). -/
def forwardPair (p : WheelPair) : WheelPair := { a := !p.b, b := p.a }

/-- The pair that follows a pair in the backward order (section 2.1). -/
def backwardPair (p : WheelPair) : WheelPair := { a := p.b, b := !p.a }

/-- What a transition does while the source is WHEEL (R24). -/
def wheelStep (old new : WheelPair) (s : State) : State :=
  if new = forwardPair old then stepChainage true s.clp.consts.wheelPitch s
  else if new = backwardPair old then stepChainage false s.clp.consts.wheelPitch s
  else countWheelFault s

/-- WHEEL_TRANSITION: the sampled pair becomes the remembered pair, and while the source is WHEEL the step is
applied or the fault counted (R24). A pair that equals the remembered one is no transition (log 3). -/
def execWheelTransition (pair : WheelPair) (s : State) : Host.Outcome State Fault Refusal :=
  if pair = s.cc.pair then .next s
  else
    let s1 := { s with cc := { s.cc with pair := pair } }
    match s.cc.source with
    | .shadow => .next s1
    | .wheel => .next (formPermit (wheelStep s.cc.pair pair s1))

/-! ## Stillness -/

/-- The bench's wait for the machine to stand is satisfied (R29, R120, R122). -/
def serveBench : State → State := modifyBench fun b => { b with sampling := true }

/-- The run's wait for the machine to stand is satisfied: the DIG completes (R29, R65, R66). -/
def serveRun (s : State) : State :=
  match s.lt with
  | some r =>
    match r.phase with
    | .ended => completeHead .done .runEnd s
    | .stopping => completeHead .aborted .softAbort s
    | _ => s
  | none => s

/-- STILLNESS_TIMER_EXPIRY: the machine stands, and the waiting rules are told (R28, R29). -/
def execStillnessTimerExpiry (s : State) : Host.Outcome State Fault Refusal :=
  match s.cc.stillTimer with
  | some _ =>
    .next (formPermit (serveRun (serveBench { s with cc := { s.cc with still := .still, stillTimer := none } })))
  | none => .next s

/-! ## Setting the chainage -/

/-- SET_CHAINAGE (R31). -/
def execSetChainage (tag value : Nat) (s : State) : Host.Outcome State Fault Refusal :=
  if holdsDig s || s.sm.isSome then .next (refuse .setChainage tag .state s)
  else if value ≤ 999999 then .next (answer .setChainage tag .ok .none (setTheChainage value s))
  else .next (answer .setChainage tag .clamped .none (setTheChainage 999999 s))

end Sys2Proof.Machine
end

