-- ==== Sys2Proof/Machine/Outputs.lean ====
section
/-! DEFINITION. The Output Stage (spec/09): the coil checks, the stroke and tilt samples, the health set, the
entry into FAULTED, the sample tick and CLEAR_FAULT. -/

namespace Sys2Proof.Machine

/-! ## The coil checks -/

/-- The result of one coil's check, by its duty at that moment (R163). -/
def checkResult (duty : Nat) (c : CoilSense) : CoilResult :=
  if duty = 0 then (if c.path then .good else .broken)
  else if 3000 < c.current then .short
  else if duty < 100 then .noResult
  else if c.current < 50 then .broken
  else .good

/-- The coil after its check: an open reading raises the count, which stays at 3; a good one clears it; the
others keep it (R163). -/
def checkedCoil (r : CoilResult) (c : Coil) : Coil :=
  match r with
  | .broken => { openCount := min 3 (c.openCount + 1), latest := r }
  | .good => { openCount := 0, latest := r }
  | _ => { c with latest := r }

/-- An open is declared as the count goes from 2 to 3, a short at its check (R163). -/
def declares (r : CoilResult) (c : Coil) : Bool := (r == .broken && c.openCount == 2) || r == .short

/-- The health mark of an open coil after a check: set by an open reading, cleared by a good one, and kept
by the others (R167, log 13). -/
def openHealth (r : CoilResult) (old : Bool) : Bool :=
  match r with
  | .broken => true
  | .good => false
  | _ => old

/-! ## Entering FAULTED -/

/-- The Output Stage in FAULTED: the mark, both duties 0, and the fault record (R166 step 1). -/
def faultedOutputs (f : FaultRecord) (o : Os) : Os := { setDuties 0 0 o with faulted := true, record := some f }

/-- The record of a fault declared now (R166 step 1). -/
def faultNow (cause : FaultCause) (reading : Int) (s : State) : FaultRecord :=
  { cause := cause, time := s.clock, chainage := chainage s, v := s.gl.v, reading := reading }

/-- A fault is declared: FAULTED is entered in the order of R166, and while the mark is set already nothing
but the health set shows it (R167). -/
def declareFault (cause : FaultCause) (reading : Int) (s : State) : State :=
  if s.os.faulted then s
  else
    let f := faultNow cause reading s
    let s1 := fire (.fault f) (formPermit { s with os := faultedOutputs f s.os })
    let s2 := emptyQueue .failed .fault s1
    endTie .fault none { s2 with oq := { s2.oq with seq := .faulted } }

/-! ## The sample tick -/

/-- What falls due in one sample tick besides the taking of the samples: the hand-on of the stroke, and each
fault declared. -/
inductive TickItem where
  | handStroke
  | fault (cause : FaultCause) (reading : Int)
deriving DecidableEq, Repr

/-- A LIFT executes. -/
def lifting (s : State) : Bool :=
  match executing s with
  | some (op, _) => op.params == .lift
  | none => false

/-- The stroke handed on acts: it meets a limit, clears REACH, or completes a LIFT (R94, R95, R150). -/
def strokeActs (s : State) : Bool :=
  limitOf s.clp.consts (strokeSeen s) s.gl.v != .none
    || (s.oq.pause.reach && decide (s.clp.consts.strokeBottom < strokeSeen s))
    || (lifting s && decide (s.clp.consts.strokeTop ≤ strokeSeen s))

/-- The stroke is handed on to the Grade Loop and then to the queue (R94, R95, R150, R164). -/
def handStroke (s : State) : State :=
  let s1 := limitAtSample s
  if lifting s1 && decide (s1.clp.consts.strokeTop ≤ strokeSeen s1) then completeHead .done .top s1 else s1

/-- One item of a sample tick. -/
def takeItem (s : State) : TickItem → State
  | .handStroke => handStroke s
  | .fault cause reading => declareFault cause reading s

/-- A list in the order a number picks, one item after another. The first argument bounds the picks and is
given as the list's length. -/
def inPickedOrder : Nat → Nat → List TickItem → List TickItem
  | 0, _, l => l
  | _ + 1, _, [] => []
  | fuel + 1, n, x :: xs =>
    let l := x :: xs
    let i := n % l.length
    (l.getD i x) :: inPickedOrder fuel (n / l.length) (l.eraseIdx i)

/-- The items of a tick taken one after another. The first one taken decides where they meet, and R166 gives
no order: of two or more, the order is a free value (log 8). -/
def takeItems (l : List TickItem) (s : State) : State :=
  if l.length ≤ 1 then l.foldl takeItem s
  else (inPickedOrder l.length (Config.tickOrder s.free) l).foldl takeItem { s with free := s.free + 1 }

/-- A stroke reading in range (R164). -/
def strokeInRange (reading : Int) : Bool := decide (0 ≤ reading) && decide (reading ≤ 1000)

/-- The Output Stage after the samples and the checks, before anything is handed on or declared (R163 to
R165, R167). -/
def sampledOutputs (r : Readings) (o : Os) : Os :=
  let reading := strokeReading r.stroke
  let raised := checkResult o.raiseDuty r.raise
  let lowered := checkResult o.lowerDuty r.lower
  { o with
    raise := checkedCoil raised o.raise
    lower := checkedCoil lowered o.lower
    stroke := if strokeInRange reading then reading.toNat else o.stroke
    strokeOk := strokeInRange reading
    tilt := tiltReading r.tilt
    health := { openRaise := openHealth raised o.health.openRaise
                openLower := openHealth lowered o.health.openLower
                strokeRange := !strokeInRange reading } }

/-- The cause of a declared coil fault. -/
def coilCause (r : CoilResult) (broken short : FaultCause) : FaultCause :=
  match r with
  | .short => short
  | _ => broken

/-- The fault items of a coil's check. -/
def coilFault (duty : Nat) (c : CoilSense) (old : Coil) (broken short : FaultCause) : List TickItem :=
  let r := checkResult duty c
  if declares r old then [.fault (coilCause r broken short) c.current] else []

/-- The faults declared by the readings of a tick, by the outputs as they stood before it (R163, R164). -/
def tickFaults (r : Readings) (o : Os) : List TickItem :=
  let reading := strokeReading r.stroke
  (if strokeInRange reading then [] else [.fault .strokeRange reading])
    ++ coilFault o.raiseDuty r.raise o.raise .coilOpenRaise .coilShortRaise
    ++ coilFault o.lowerDuty r.lower o.lower .coilOpenLower .coilShortLower

/-- The samples taken into the state: the Output Stage's, and in a shadow run the simulated stroke as it then
stands (R164, R174). -/
def takeSamples (r : Readings) (s : State) : State :=
  { s with os := sampledOutputs r s.os, sm := s.sm.map fun m => { m with handed := m.stroke } }

/-- A stroke is handed on at this tick: the real one when it is in range, and in a shadow run always the
simulated one (R164). -/
def strokeHanded (r : Readings) (s : State) : Bool := s.sm.isSome || strokeInRange (strokeReading r.stroke)

/-- The items of a sample tick, the samples being taken. -/
def tickItems (r : Readings) (old s : State) : List TickItem :=
  (if strokeHanded r s && strokeActs s then [.handStroke] else []) ++ tickFaults r old.os

/-- One sampling of the Output Stage (R163 to R167). -/
def sampleOutputs (r : Readings) (s : State) : State :=
  let s1 := takeSamples r s
  formPermit (takeItems (tickItems r s s1) s1)

/-- SAMPLE_TICK (R164). -/
def execSampleTick (r : Readings) (s : State) : Host.Outcome State Fault Refusal := .next (sampleOutputs r s)

/-! ## Clearing a fault -/

/-- The health set is empty (R168). -/
def healthy (h : Health) : Bool := !(h.openRaise || h.openLower || h.strokeRange)

/-- The FAULTED mark and both open counts cleared; the fault record is kept as the last fault (R168). -/
def clearedOutputs (o : Os) : Os :=
  { o with faulted := false, raise := { o.raise with openCount := 0 }, lower := { o.lower with openCount := 0 } }

/-- CLEAR_FAULT (R168). -/
def execClearFault (tag : Nat) (s : State) : Host.Outcome State Fault Refusal :=
  if !s.os.faulted then .next (refuse .clearFault tag .state s)
  else if healthy s.os.health then
    .next (answer .clearFault tag .ok .none
      (formPermit { s with os := clearedOutputs s.os, oq := { s.oq with seq := .idle } }))
  else .next (refuse .clearFault tag .faulted s)

end Sys2Proof.Machine
end

