-- ==== Sys2Proof/Machine/QueueRequests.lean ====
section
/-! DEFINITION. The requests of the Operation Queue (spec/08): ENQUEUE, READ_QUEUE, SOFT_ABORT, STOP and
RESUME, and the expiry of the DWELL timer. -/

namespace Sys2Proof.Machine

/-- The most operations the queue holds (R140). -/
def queueCapacity : Nat := 4

/-- A DIG that names a sheet which is not SEALED (R141 test 4). -/
def unsealedDig (p : OpParams) (s : State) : Bool :=
  match p with
  | .dig n _ _ _ => !isSealed (sheetAt s n).body
  | _ => false

/-- The tests of ENQUEUE in order, with the operation it carries (R141). -/
def enqueueTest (opTag : Nat) (f : OpFields) (standing : Nat) (s : State) : ResultCode ⊕ Operation :=
  match operationOf opTag f standing with
  | none => .inl .badValue
  | some op =>
    if s.oq.seq = .faulted then .inl .faulted
    else if queueCapacity ≤ s.oq.ops.length then .inl .full
    else if unsealedDig op.params s then .inl .state
    else .inr op

/-- The operation appended as WAITING, with its sheet's count (R142 step 1). -/
def appendOperation (op : Operation) (s : State) : State :=
  adjustInUse (· + 1) op.params { s with oq := { s.oq with ops := s.oq.ops ++ [op] } }

/-- An operation taken: appended, and started when it is the head (R142). -/
def takeOperation (op : Operation) (s : State) : State :=
  let s1 := appendOperation op s
  if s.oq.ops.isEmpty then startHead (s1.oq.ops.length + 1) s1 else s1

/-- ENQUEUE (R141, R142). The reply gives the position taken and the number of operations the queue holds with
it (log 36). -/
def execEnqueue (tag opTag : Nat) (f : OpFields) (standing : Nat) (s : State) : Host.Outcome State Fault Refusal :=
  match enqueueTest opTag f standing s with
  | .inl code => .next (refuse .enqueue tag code s)
  | .inr op =>
    .next (answer .enqueue tag .ok (.enqueued s.oq.ops.length (s.oq.ops.length + 1))
      (formPermit (takeOperation op s)))

/-! ## READ_QUEUE -/

/-- The target depth a loop holds, or none while it is unlatched. -/
def targetDepth (l : LoopCtx) : Option Int :=
  match l.target with
  | .given d => some d
  | .latched d => some d
  | _ => none

/-- What READ_QUEUE adds for the executing operation by its kind (R158). -/
def queueDetail (p : OpParams) (info : RunInfo) (s : State) : QueueDetail :=
  match p with
  | .dig .. =>
    match s.lt with
    | some r => .dig r.c0 r.softAborted
    | none => .dig 0 false
  | .plunge _ => .plunge ((s.gl.loop.map (·.holdCount)).getD 0)
  | .hold .. =>
    .hold info.cycles info.cycleChainage (chainage s - info.cycleChainage) (s.gl.loop.bind targetDepth)
  | .dwell _ => .dwell info.cycles (s.oq.dwellTimer.getD s.clock - s.clock)
  | .lift => .lift (strokeSeen s)

/-- What READ_QUEUE shows of one operation (R158). -/
def queueItem (s : State) (position : Nat) (op : Operation) : QueueItem :=
  { position := position, tag := op.tag, params := op.params, standing := op.standing,
    running := match op.state with
      | .waiting => none
      | .executing info => some (info.startTime, s.clock - info.startTime, queueDetail op.params info s) }

/-- The reply to READ_QUEUE (R158). -/
def queueReply (s : State) : QueueReply :=
  { seq := s.oq.seq, count := s.oq.ops.length, pause := s.oq.pause,
    items := s.oq.ops.mapIdx fun i op => queueItem s i op }

/-- READ_QUEUE (R158). -/
def execReadQueue (tag : Nat) (s : State) : Host.Outcome State Fault Refusal :=
  .next (answer .readQueue tag .ok (.queue (queueReply s)) s)

/-! ## SOFT_ABORT, STOP and RESUME -/

/-- A soft abort of an executing DIG: the run is stopped, and when it has just entered STOPPING with the
machine standing the DIG completes at once (R29, R66, R67). -/
def softAbortDig (s : State) : State :=
  match s.lt with
  | none => s
  | some r =>
    let s1 := softAbortRun r s
    if stopsAtSoftAbort r.phase then completeIfStill .aborted .softAbort s1 else s1

/-- What SOFT_ABORT does, by the kind of the executing operation (R152). -/
def softAbort (p : OpParams) (s : State) : State :=
  match p with
  | .dig .. => softAbortDig s
  | _ => completeHead .aborted .softAbort s

/-- SOFT_ABORT (R152). -/
def execSoftAbort (tag : Nat) (s : State) : Host.Outcome State Fault Refusal :=
  match executing s with
  | none => .next (refuse .softAbort tag .state s)
  | some (op, _) => .next (answer .softAbort tag .ok .none (formPermit (softAbort op.params s)))

/-- What STOP does, in the order of R153. -/
def stopAll (s : State) : State :=
  formPermit (endTie .stopped none (idleSequencer (emptyQueue .aborted .stop s)))

/-- STOP, answered when it was addressed and unanswered as a broadcast (R153, R186). -/
def execStop (broadcast : Bool) (tag : Nat) (s : State) : Host.Outcome State Fault Refusal :=
  if broadcast then .next (takeInHand true (requestCode .stop) tag (stopAll s))
  else .next (answer .stop tag .ok .none (stopAll s))

/-- The run stands at a held segment end (R154). -/
def exchangePending (s : State) : Bool :=
  match s.lt with
  | some r => r.phase == .segmentHold
  | none => false

/-- The pending exchange is performed, and the new boundary tested (R61). -/
def resumeExchange (s : State) : State :=
  match s.lt with
  | some r => testBoundary (exchange (releaseHold r s))
  | none => s

/-- RESUME_WAIT is removed (R114). -/
def removeResumeWait : State → State := withPause fun p => { p with resumeWait := false }

/-- What RESUME does when something is pending (R61, R114, R154). -/
def resumeAll (s : State) : State :=
  let s1 := if exchangePending s then resumeExchange s else s
  formPermit (if s.oq.pause.resumeWait then removeResumeWait s1 else s1)

/-- RESUME (R154). -/
def execResume (tag : Nat) (s : State) : Host.Outcome State Fault Refusal :=
  if exchangePending s || s.oq.pause.resumeWait then
    .next (answer .resume tag .ok (.resumed (exchangePending s) s.oq.pause.resumeWait) (resumeAll s))
  else .next (refuse .resume tag .state s)

/-! ## The DWELL timer -/

/-- DWELL_TIMER_EXPIRY: the cycle of the executing DWELL ends (R149, R151). -/
def execDwellTimerExpiry (s : State) : Host.Outcome State Fault Refusal :=
  match s.oq.dwellTimer with
  | some _ => .next (formPermit (endCycle .time s))
  | none => .next s

end Sys2Proof.Machine
end

