-- ==== Sys2Proof/Machine/Shadow.lean ====
section
/-! DEFINITION. The Shadow Model (spec/10): entering and leaving a shadow run, the model's step, the generated
strike and the gap. -/

namespace Sys2Proof.Machine

/-! ## The model's step -/

/-- The change of depth before it is cut (R177). -/
def freeDepthChange (v : Int) (rate period : Nat) : Int := -(floorDiv (v * (rate * period : Nat)) 1000000)

/-- The change of depth, cut so that Ds does not fall below L − 145 and the stroke stays within 0 to 1000
(R177). -/
def depthChange (k : Constants) (m : Shadow) : Int :=
  clampInt (max ((m.mast : Int) - 145 - m.ds) ((m.stroke : Int) - 1000)) m.stroke
    (freeDepthChange m.drive k.shadowRate k.shadowPeriod)

/-- The boom stage: Ds and the stroke both change by the cut amount (R177 stage 1). -/
def boomStage (k : Constants) (m : Shadow) : Shadow :=
  { m with ds := m.ds + depthChange k m, stroke := ((m.stroke : Int) - depthChange k m).toNat }

/-- The travel stage: the shadow advance, when the internal permit is asserted (R178). -/
def travelStage (s : State) : State :=
  if s.os.permit then stepChainage true (s.clp.consts.shadowSpeed * s.clp.consts.shadowPeriod) s else s

/-- The status code and the cells of a generated strike with a beam offset (R179). -/
def generatedCells (b : Int) : Byte × Byte × Byte :=
  if 95 < b then (1, 0, 0)
  else if b < -95 then (2, 0, 0)
  else
    let sum := (b + 95).toNat
    (0, BitVec.ofNat 8 (sum / 2), BitVec.ofNat 8 (sum - sum / 2))

/-- The strike the model generates of an entry (R179). -/
def generatedStrike (m : Shadow) (e : PlaneEntry) (s : State) : Strike :=
  let (status, first, last) := generatedCells (m.ds - m.mast)
  { sig := BitVec.ofNat 8 e.sigLo, first := first, last := last, status := status, chainage := chainage s,
    time := s.clock, generated := true }

/-- The gap as the strike stage leaves it: removed once travel has reached its distance (R180). -/
def gapNow (c : Nat) (g : Option Gap) : Option Gap :=
  match g with
  | some g => if g.start + g.distance ≤ c then none else some g
  | none => none

/-- The strike stage: the gap is tested, and without one a strike of the ACTIVE entry is generated and offered
to the slot (R177 stage 3, R179, R180). -/
def strikeStage (s : State) : State :=
  match s.sm with
  | none => s
  | some m =>
    let m' := { m with gap := gapNow (chainage s) m.gap }
    let s1 := { s with sm := some m' }
    match m'.gap, activeEntry s1 with
    | none, some i => offerStrike (generatedStrike m' (entryAt s1 i) s1) s1
    | _, _ => s1

/-- One step of the model (R177). -/
def modelStep (m : Shadow) (s : State) : State :=
  let m' := { boomStage s.clp.consts m with due := after s.clock s.clp.consts.shadowPeriod }
  strikeStage (travelStage { s with sm := some m' })

/-- SHADOW_PERIOD_TIMER_EXPIRY (R177). -/
def execShadowPeriodTimerExpiry (s : State) : Host.Outcome State Fault Refusal :=
  match s.sm with
  | some m => .next (formPermit (modelStep m s))
  | none => .next s

/-! ## Entering and leaving -/

/-- The simulated boot depth at the start (R176). -/
def startDepth (mast : Nat) (e : PlaneEntry) : Int :=
  match e.last with
  | some k => (mast : Int) + (beamOffset k.beam).getD 0
  | none => mast

/-- The model as it is started from the machine (R176). -/
def startModel (e : PlaneEntry) (s : State) : Shadow :=
  { setAside := s.cc.acc, stroke := s.os.stroke, ds := startDepth s.clp.consts.mastLength e,
    mast := s.clp.consts.mastLength, due := after s.clock s.clp.consts.shadowPeriod, gap := none,
    drive := s.gl.v, handed := s.os.stroke }

/-- A shadow run begins, once its tests have passed (R173, R175, R176): the real chainage is set aside, the
chainage is set to its whole millimetres, the mark is ON and both coils are off (log 34). -/
def beginShadow (e : PlaneEntry) (s : State) : State :=
  let s1 := setAccumulator (1000 * chainage s) s
  formPermit { s1 with cc := { s1.cc with source := .shadow }, sm := some (startModel e s),
                       os := setDuties 0 0 s1.os }

/-- The tests of SHADOW_ON in order, with the ACTIVE entry (R173). -/
def shadowOnTest (s : State) : ResultCode ⊕ Fin 8 :=
  if s.sm.isSome then .inl .state
  else if s.os.faulted then .inl .faulted
  else if !s.oq.ops.isEmpty then .inl .busy
  else if tieInFlight s then .inl .busy
  else
    match activeEntry s with
    | some i => .inr i
    | none => .inl .state

/-- SHADOW_ON (R173). -/
def execShadowOn (tag : Nat) (s : State) : Host.Outcome State Fault Refusal :=
  match shadowOnTest s with
  | .inl code => .next (refuse .shadowOn tag code s)
  | .inr i => .next (answer .shadowOn tag .ok .none (beginShadow (entryAt s i) s))

/-- The model is removed, the real chainage restored with its residue, and the source is WHEEL (R175, R181
steps 2, 4 and 5). -/
def leaveShadow (s : State) : State :=
  match s.sm with
  | none => s
  | some m =>
    let s1 := setAccumulator m.setAside s
    { s1 with cc := { s1.cc with source := .wheel }, sm := none }

/-- A generated strike waiting in the slot is discarded without a count (R181 step 3). -/
def dropGenerated (s : State) : State := setSlot (s.mlr.slot.filter fun x => !x.generated) s

/-- A shadow run ends, in the order of R181. -/
def endShadow (s : State) : State := formPermit (leaveShadow (dropGenerated (endTie .stopped none s)))

/-- SHADOW_OFF (R181); the mark is tested before the queue (log 20). -/
def execShadowOff (tag : Nat) (s : State) : Host.Outcome State Fault Refusal :=
  if s.sm.isNone then .next (refuse .shadowOff tag .state s)
  else if !s.oq.ops.isEmpty then .next (refuse .shadowOff tag .busy s)
  else .next (answer .shadowOff tag .ok .none (endShadow s))

/-- The greatest distance of a gap, in millimetres (R180). -/
def gapTop : Nat := 50000

/-- The gap SHADOW_GAP leaves: none for distance 0, otherwise one from the shadow chainage (R180). -/
def newGap (distance c : Nat) : Option Gap := if distance = 0 then none else some { start := c, distance := distance }

/-- SHADOW_GAP (R180); the distance is tested before the mark (log 20). -/
def execShadowGap (tag distance : Nat) (s : State) : Host.Outcome State Fault Refusal :=
  if gapTop < distance then .next (refuse .shadowGap tag .badValue s)
  else
    match s.sm with
    | none => .next (refuse .shadowGap tag .state s)
    | some m =>
      .next (answer .shadowGap tag .ok .none { s with sm := some { m with gap := newGap distance (chainage s) } })

end Sys2Proof.Machine
end

