-- ==== Sys2Proof/Machine/Power.lean ====
section
/-! DEFINITION. Power-on and RESTART (R193, R194 and the values rules of each chapter). -/

namespace Sys2Proof.Machine

/-- The part at the release of RESET_N, before its first sampling: the reset state with the straps latched
and the wheel levels remembered (R22, R33, R184, R194). The model's queue of commands and its count of free
values go on (log 35). -/
def powered (addr0 addr1 : Bool) (wheel : WheelPair) (s : State) : State :=
  { State.reset with
    cc := { State.reset.cc with pair := wheel }
    clp := { State.reset.clp with address := strapAddress addr0 addr1 }
    free := s.free
    pending := s.pending }

/-- POWER_ON: the values after power-on, and the first sampling (R171). -/
def execPowerOn (addr0 addr1 : Bool) (wheel : WheelPair) (first : Readings) (s : State) :
    Host.Outcome State Fault Refusal :=
  .next (sampleOutputs first (powered addr0 addr1 wheel s))

/-- An entry after RESTART (R23). -/
def restEntry (e : PlaneEntry) : PlaneEntry :=
  { e with role := if e.role = .empty then .empty else .standby, tie := none, matched := false, last := none }

/-- RESTART's step 4: the Plane Acceptance Table, the strike slot, the assembler and the qualifier's work
(R23). -/
def restPlanes (s : State) : State :=
  { s with pat := mapEntries restEntry s.pat
           mlr := { s.mlr with rx := .hunting, slot := none }
           sq := { s.sq with toLoop := none, toBench := none, toTie := none } }

/-- RESTART's step 5: every flag and the foreign latch cleared, the report queue emptied (R15, R193). -/
def restPort (s : State) : State :=
  { s with clp := { s.clp with flags := 0, reports := [] }
           sq := { s.sq with foreignLatch := false } }

/-- What RESTART does, in the order of R193. A coil that is driven as the queue is emptied becomes undriven, so its
open count starts again at 0 by R163, though R172 keeps the open counts; the count of a coil that was undriven is
kept (DEDUCED, log 38). -/
def restartAll (s : State) : State :=
  let s1 := idleSequencer (emptyQueue .aborted .restart s)
  let s2 := leaveShadow (endTie .stopped none s1)
  formPermit (restPort (restPlanes s2))

/-- RESTART (R193). -/
def execRestart (tag : Nat) (s : State) : Host.Outcome State Fault Refusal :=
  .next (answer .restart tag .ok .none (restartAll s))

end Sys2Proof.Machine
end

