-- ==== Sys2Proof/Machine/Sheets.lean ====
section
/-! DEFINITION. The requests of the Sheet Store (spec/03): OPEN_SHEET, APPEND_SEGMENT, SEAL_SHEET,
ERASE_SHEET and READ_SHEET. -/

namespace Sys2Proof.Machine

/-- The most segments a sheet holds (section 3.2). -/
def segmentCapacity : Nat := 20

/-- The index of READ_SHEET that names the header and the summary (R43). -/
def headerIndex : Nat := 255

/-- The contents of a sheet set. -/
def setBody (n : Fin 6) (b : SheetBody) (s : State) : State := modifySheet n (fun h => { h with body := b }) s

/-- The state of a sheet. -/
def sheetState : SheetBody → SheetState
  | .empty => .empty
  | .opened _ _ => .opened
  | .sealed _ _ => .sealed

/-- OPEN_SHEET (R38). -/
def execOpenSheet (tag n : Nat) (header : HeaderFields) (s : State) : Host.Outcome State Fault Refusal :=
  match sheetOf n, headerOf header with
  | some i, some h =>
    if 0 < (sheetAt s i).inUse then .next (refuse .openSheet tag .busy s)
    else if sheetState (sheetAt s i).body = .opened then .next (refuse .openSheet tag .state s)
    else .next (answer .openSheet tag .ok .none (setBody i (.opened h []) s))
  | _, _ => .next (refuse .openSheet tag .badValue s)

/-- The tests of APPEND_SEGMENT on an OPEN sheet (R39 tests 3 and 4), with the segment it carries. -/
def appendTest (h : Header) (segments : List Segment) (length : Nat) (grade : Int) (marker stopAtEnd : Nat) :
    ResultCode ⊕ Segment :=
  if segmentCapacity ≤ segments.length then .inl .full
  else
    match segmentOf h.minGrade (totalLength segments) length grade marker stopAtEnd with
    | some g => .inr g
    | none => .inl .badValue

/-- APPEND_SEGMENT (R39, R40). -/
def execAppendSegment (tag n length : Nat) (grade : Int) (marker stopAtEnd : Nat) (s : State) :
    Host.Outcome State Fault Refusal :=
  match sheetOf n with
  | none => .next (refuse .appendSegment tag .badValue s)
  | some i =>
    match (sheetAt s i).body with
    | .opened h segments =>
      match appendTest h segments length grade marker stopAtEnd with
      | .inl code => .next (refuse .appendSegment tag code s)
      | .inr g =>
        .next (answer .appendSegment tag .ok
          (.appended segments.length (segments.length + 1) (totalLength segments + length))
          (setBody i (.opened h (segments ++ [g])) s))
    | _ => .next (refuse .appendSegment tag .state s)

/-- The summary SEAL_SHEET replies with (R41). -/
def sealSummary (segments : List Segment) : Contents :=
  .sealedSheet segments.length (totalLength segments) (totalRise segments)

/-- SEAL_SHEET (R41). -/
def execSealSheet (tag n : Nat) (s : State) : Host.Outcome State Fault Refusal :=
  match sheetOf n with
  | none => .next (refuse .sealSheet tag .badValue s)
  | some i =>
    match (sheetAt s i).body with
    | .empty => .next (refuse .sealSheet tag .state s)
    | .opened h segments =>
      if segments.isEmpty then .next (refuse .sealSheet tag .state s)
      else .next (answer .sealSheet tag .ok (sealSummary segments) (setBody i (.sealed h segments) s))
    | .sealed _ segments => .next (answer .sealSheet tag .ok (sealSummary segments) s)

/-- ERASE_SHEET (R42). -/
def execEraseSheet (tag n : Nat) (s : State) : Host.Outcome State Fault Refusal :=
  match sheetOf n with
  | none => .next (refuse .eraseSheet tag .badValue s)
  | some i =>
    if 0 < (sheetAt s i).inUse then .next (refuse .eraseSheet tag .busy s)
    else .next (answer .eraseSheet tag .ok .none (setBody i .empty s))

/-- The header and the summary of a sheet (R43). -/
def sheetSummary (h : Sheet) : Contents :=
  let segments := segmentsOf h.body
  .sheet (sheetState h.body) (headerIn h.body) segments.length (totalLength segments) (totalRise segments) h.inUse

/-- One segment with its offset, its rise before and its own rise, or none past the last (R36, R44). -/
def segmentDetail (segments : List Segment) (k : Nat) : Option Contents :=
  segments[k]?.map fun g =>
    .segment g (totalLength (segments.take k)) (totalRise (segments.take k)) (riseOf g.grade g.length)

/-- READ_SHEET (R43, R44). -/
def execReadSheet (tag n index : Nat) (s : State) : Host.Outcome State Fault Refusal :=
  match sheetOf n with
  | none => .next (refuse .readSheet tag .badValue s)
  | some i =>
    if index = headerIndex then .next (answer .readSheet tag .ok (sheetSummary (sheetAt s i)) s)
    else
      match segmentDetail (segmentsOf (sheetAt s i).body) index with
      | some c => .next (answer .readSheet tag .ok c s)
      | none => .next (refuse .readSheet tag .badValue s)

end Sys2Proof.Machine
end

