-- ==== Sys2Proof/Machine/Wire.lean ====
section
/-! DEFINITION. The bytes of a reply frame (R183): the result code, then the contents in the order their rules
list them. What R183 leaves open of them is log 18's (DESIGN CHOICE): a set is sent as one byte of bits, a field of
one figure or record that may be absent as an optional field, and a group of contents that a rule lists for some states
of the part only is left out in the others, a mark before it telling so where no field before it does. -/

namespace Sys2Proof.Machine

/-! ## Fields -/

/-- An unsigned or signed number in n bytes. -/
def number (n : Nat) (v : Int) : List Byte := toBytes n v

/-- A yes-or-no value, a mark or a presence mark (R183). -/
def markByte (b : Bool) : List Byte := [if b then 1 else 0]

/-- An optional field of n bytes: its presence mark, and bytes of 0 when it is absent (R183). -/
def optionalBytes (n : Nat) (v : Option Int) : List Byte := markByte v.isSome ++ number n (v.getD 0)

/-- A chainage, 0 to 999,999. -/
def chainageBytes (c : Nat) : List Byte := number 3 c

/-- A time, or a difference of times (R183). -/
def timeBytes (t : Time) : List Byte := number 4 t.toNat

/-- A mask (R183). -/
def maskBytes (m : Mask) : List Byte := number 2 m.toNat

/-- A tie: Pb and cb. -/
def tieBytes (t : Tie) : List Byte := number 2 t.pb ++ chainageBytes t.cb

/-- An entry of the Plane Acceptance Table. -/
def entryByte (e : Fin 8) : List Byte := number 1 e.val

/-- An optional chainage. -/
def optionalChainage (c : Option Nat) : List Byte := optionalBytes 3 (c.map fun x => (x : Int))

/-- The spread of a tie that ended with reason SPREAD. -/
def spreadBytes (v : Option Int) : List Byte := optionalBytes 3 v

/-- An elevation of the design line that never lies below the benchmark, 0 to 50,010: a start invert, the design invert
at the end of a run, the base or a rise. Section 00's table of units calls an elevation a signed integer, so that R183
leaves 2 bytes, unsigned, and 3, signed, both open; the model sends 2 (DESIGN CHOICE, log 18). -/
def invertBytes (v : Int) : List Byte := number 2 v

/-- The number whose bit n is the n-th of a list of marks. -/
def bitsOf : List Bool → Nat
  | [] => 0
  | b :: rest => b.toNat + 2 * bitsOf rest

/-- A set of at most eight members in one byte, the first member its bit 0, as a mask names its kinds (log 18). -/
def setByte (members : List Bool) : List Byte := number 1 (bitsOf members)

/-- The pause-reason set, its reasons in the order of section 8.10 (log 18). -/
def pauseByte (p : PauseSet) : List Byte :=
  setByte [p.beam, p.resumeWait, p.segmentHold, p.reach, p.stopping, p.bench]

/-- The health set, its members in the order of R167 (log 18). -/
def healthByte (h : Health) : List Byte := setByte [h.openRaise, h.openLower, h.strokeRange]

/-- The status code of a beam. -/
def beamCode : Beam → Nat
  | .inWindow _ => 0
  | .above => 1
  | .below => 2
  | .split => 3

/-! ## Event records -/

/-- A fault record (R166). R163 lists the four coil causes, which are coded 0 to 3 in its order, and R164 names
STROKE_RANGE apart; it is coded 4, after the four (DESIGN CHOICE, log 18). -/
def faultBytes (f : FaultRecord) : List Byte :=
  number 1 f.cause.ctorIdx ++ timeBytes f.time ++ chainageBytes f.chainage ++ number 2 f.v ++ number 2 f.reading

/-- The cause of a LINE event with its counter or end (R183, R189): a counter by its place in the table of R190,
LOW and HIGH by their order. -/
def lineBytes : LineCause → List Byte
  | .mastLine counter => number 1 0 ++ number 1 counter.ctorIdx
  | .foreign => number 1 1
  | .chainageLimit which => number 1 2 ++ number 1 which.ctorIdx

/-- The loop state a transfer set, or NONE, which is coded 6, after the six states (log 18). -/
def loopByte (l : Option LoopName) : List Byte :=
  match l with
  | some n => number 1 n.ctorIdx
  | none => number 1 6

/-- The body of an event record, by its kind (R63, R74, R92, R116, R137, R156, R166, R189). The outcome and the reason of
OP_DONE are coded by the places of the names in R155's table, each name counted once, where the table names it first
(DESIGN CHOICE, log 18). -/
def eventBytes : Event → List Byte
  | .segmentChange index start invert => number 1 index ++ chainageBytes start ++ invertBytes invert
  | .segmentEnd index frozen cause => number 1 index ++ chainageBytes frozen ++ number 1 cause.ctorIdx
  | .marker m index point => number 1 m.ctorIdx ++ number 1 index ++ chainageBytes point
  | .runEnd index last invert => number 1 index ++ chainageBytes last ++ invertBytes invert
  | .benchDone e t spread samples moves spreads =>
    entryByte e ++ tieBytes t ++ number 1 spread ++ number 1 samples ++ number 2 moves ++ number 2 spreads
  | .beamSearch dir left level => number 1 dir.ctorIdx ++ number 1 left.ctorIdx ++ number 2 level
  | .beamLost cause left flips advance elapsed =>
    number 1 cause.ctorIdx ++ number 1 left.ctorIdx ++ number 1 flips ++ number 3 advance ++ timeBytes elapsed
  | .beamRegained left awaited depth => number 1 left.ctorIdx ++ markByte awaited ++ number 2 depth
  | .tieDone e t spread n mode =>
    entryByte e ++ tieBytes t ++ number 1 spread ++ number 1 n ++ number 1 mode.ctorIdx
  | .tieFailed e reason pairs spread =>
    entryByte e ++ number 1 reason.ctorIdx ++ number 1 pairs ++ spreadBytes spread
  | .transfer e retired t loop =>
    entryByte e ++ entryByte retired ++ tieBytes t ++ loopByte loop
  | .opDone tag kind outcome reason cycles left =>
    number 1 tag ++ number 1 kind.ctorIdx ++ number 1 outcome.ctorIdx ++ number 1 reason.ctorIdx
      ++ number 2 cycles ++ number 1 left
  | .reachLimit stroke cut => number 2 stroke ++ number 2 cut
  | .tiltClamp sample clamped user => number 2 sample ++ number 1 clamped ++ number 1 user.ctorIdx
  | .fault record => faultBytes record
  | .line cause => lineBytes cause

/-- A report record (R189). -/
def reportBytes (r : Report) : List Byte :=
  number 1 (eventNumber r.event) ++ number 2 r.seqNo.toNat ++ timeBytes r.time ++ chainageBytes r.chainage
    ++ eventBytes r.event

/-- A POLL reply (R189): the record and the number left. With the kind NONE, 255, no sequence number, time or
chainage is sent: a reply without a record holds the kind and the number left alone (DESIGN CHOICE, log 18). -/
def pollBytes (r : Option Report) (left : Nat) : List Byte :=
  (match r with
    | some x => reportBytes x
    | none => number 1 255) ++ number 1 left

/-! ## The contents of the other replies -/

/-- The ten counters in the order of R190. -/
def countBytes (c : Counters) : List Byte :=
  [c.overrun, c.damaged, c.noise, c.rejected, c.foreign, c.shadowMasked, c.wheelFault, c.cabDropped,
    c.reportLost, c.benchRestart].flatMap fun (n : Nat) => number 2 n

/-- The value of a constant in a reply, in the bytes the constant's own range needs (R183). R183 gives 4 bytes, signed,
for the value a SET_CONSTANT request carries; the reply's value held, and GET_CONSTANT's value, range and default, are
taken as plain numbers of the range (DESIGN CHOICE, log 18). -/
def constantBytes (c : ConstId) (v : Nat) : List Byte :=
  number (if (constRow c).hi < 256 then 1 else if (constRow c).hi < 65536 then 2 else 3) v

/-- A sheet's header (R43). -/
def headerBytes (h : Header) : List Byte :=
  number 1 h.name.length ++ h.name ++ optionalBytes 2 (h.startDepth.map fun d => (d : Int))
    ++ number 2 h.minGrade ++ number 1 h.shallow ++ number 1 h.deep ++ markByte h.autoAdvance

/-- A segment (R44). -/
def segmentBytes (g : Segment) : List Byte :=
  number 3 g.length ++ number 2 g.grade ++ number 1 g.marker.ctorIdx ++ markByte g.stopAtEnd

/-- A last strike (R21). -/
def lastBytes (l : Option LastStrike) : List Byte :=
  match l with
  | none => markByte false ++ List.replicate 11 0
  | some k =>
    markByte true ++ number 1 (beamCode k.beam) ++ optionalBytes 1 (beamOffset k.beam)
      ++ chainageBytes k.chainage ++ timeBytes k.time ++ markByte (beamValid k.beam)

/-- A plane entry (R21). -/
def planeBytes (e : PlaneEntry) : List Byte :=
  number 1 e.role.ctorIdx ++ number 1 e.sigLo ++ number 1 e.sigHi ++ number 2 e.slope
    ++ optionalBytes 2 (e.tie.map (·.pb)) ++ chainageBytes ((e.tie.map (·.cb)).getD 0)
    ++ number 2 e.count ++ markByte e.matched ++ lastBytes e.last

/-- An operation's parameters, with presence marks for the optional ones (R158). The time of a DWELL is sent as the
number of its range, 100 to 60,000, in 2 bytes (DESIGN CHOICE, log 39). -/
def paramBytes : OpParams → List Byte
  | .dig n k0 e c0 =>
    number 1 (n.val + 1) ++ number 1 k0 ++ entryByte e ++ optionalChainage c0
  | .plunge d => number 2 d
  | .hold d distance => optionalBytes 2 (d.map fun x => (x : Int)) ++ number 3 distance
  | .lift => []
  | .dwell time => number 2 time

/-- What READ_QUEUE adds for the executing operation (R158). The milliseconds left in a DWELL's cycle are sent as a
time, in 4 bytes (DESIGN CHOICE, log 39). -/
def detailBytes : QueueDetail → List Byte
  | .dig c0 aborted => chainageBytes c0 ++ markByte aborted
  | .plunge n => number 1 n
  | .hold cycles start advance target =>
    number 2 cycles ++ chainageBytes start ++ chainageBytes advance ++ optionalBytes 2 target
  | .dwell cycles left => number 2 cycles ++ timeBytes left
  | .lift stroke => number 2 stroke

/-- One operation of a READ_QUEUE reply (R158): the fields every operation has, its state the last of them. -/
def itemBytes (i : QueueItem) : List Byte :=
  number 1 i.position ++ number 1 i.tag ++ number 1 (kindOf i.params).ctorIdx ++ paramBytes i.params
    ++ markByte i.standing
    ++ number 1 (if i.running.isSome then OpStatus.executing.ctorIdx else OpStatus.waiting.ctorIdx)

/-- What READ_QUEUE adds for an executing operation (R158). -/
def runningBytes (i : QueueItem) : List Byte :=
  match i.running with
  | some (start, since, detail) => timeBytes start ++ timeBytes since ++ detailBytes detail
  | none => []

/-- A READ_QUEUE reply (R158). What it adds for the executing operation follows the fields of the last operation held, as
R158 lists it after them; that it does not stand beside the head's own fields is the model's reading (DESIGN CHOICE,
log 18). -/
def queueBytes (r : QueueReply) : List Byte :=
  number 1 r.seq.ctorIdx ++ number 1 r.count ++ pauseByte r.pause ++ r.items.flatMap itemBytes
    ++ r.items.flatMap runningBytes

/-- The least and the greatest of a list, each in n bytes, when it holds one: a presence mark before the two
(log 18). A sample of a bench needs 2 bytes, an estimate of a tie 3. -/
def extremeBytes (n : Nat) (e : Option (Int × Int)) : List Byte :=
  markByte e.isSome ++ number n ((e.map (·.1)).getD 0) ++ number n ((e.map (·.2)).getD 0)

/-- Whether each slot of a tie holds a strike, and the stamped chainage of each strike held (R138). -/
def slotBytes (a c : Option Nat) : List Byte :=
  markByte a.isSome ++ markByte c.isSome ++ (a.toList ++ c.toList).flatMap chainageBytes

/-- A tie in flight, with its result while WAITING (R138). -/
def progressBytes (p : TieProgress) : List Byte :=
  entryByte p.candidate ++ number 1 p.n ++ number 1 p.mode.ctorIdx ++ chainageBytes p.startChainage
    ++ timeBytes p.since ++ chainageBytes p.advance ++ optionalChainage p.cRef ++ number 1 p.pairs
    ++ extremeBytes 3 p.extremes ++ slotBytes p.activeSlot p.candidateSlot
    ++ (match p.result with
      | some r => tieBytes r.tie ++ number 1 r.spread
      | none => [])

/-- A bench collector (R138). -/
def benchBytes (b : BenchProgress) : List Byte :=
  markByte b.sampling ++ number 1 b.count ++ extremeBytes 2 b.extremes ++ optionalChainage b.reference
    ++ number 2 b.moveRestarts ++ number 2 b.spreadRestarts

/-- The last outcome as an optional field: either outcome takes 8 bytes, and the mark none is followed by 8 bytes of 0
(R138, R183). -/
def outcomeBytes : Option TieOutcome → List Byte
  | none => markByte false ++ List.replicate 8 0
  | some (.transferred e t spread) => markByte true ++ number 1 0 ++ entryByte e ++ tieBytes t ++ number 1 spread
  | some (.failed e reason pairs spread) =>
    markByte true ++ number 1 1 ++ entryByte e ++ number 1 reason.ctorIdx ++ number 1 pairs ++ spreadBytes spread

/-- A READ_TIE reply (R138). The tie state tells whether a tie in flight follows it; a mark the spec does not name
tells whether a bench collector follows (DESIGN CHOICE, log 18). -/
def tieReplyBytes (r : TieReply) : List Byte :=
  number 1 r.state.ctorIdx
    ++ (match r.progress with
      | some p => progressBytes p
      | none => [])
    ++ (match r.bench with
      | some b => markByte true ++ benchBytes b
      | none => markByte false)
    ++ outcomeBytes r.last

/-! ## STATUS -/

/-- The last fault record as an optional field (R166, R183). -/
def lastFaultBytes (f : Option FaultRecord) : List Byte :=
  match f with
  | some x => markByte true ++ faultBytes x
  | none => markByte false ++ List.replicate 12 0

/-- The executing operation (R192), after a mark that one executes (log 18). -/
def statusOpBytes (o : Option StatusOp) : List Byte :=
  match o with
  | some x =>
    markByte true ++ number 1 x.kind.ctorIdx ++ number 1 x.tag ++ number 1 x.state.ctorIdx ++ timeBytes x.startTime
  | none => markByte false

/-- The staged slot as an optional field (R50, R183). -/
def stagedBytes (st : Option StagedSegment) : List Byte :=
  match st with
  | some x => markByte true ++ number 1 x.index ++ chainageBytes x.cs ++ invertBytes x.invert
  | none => markByte false ++ List.replicate 6 0

/-- The run context (R50), after a mark that there is one (log 18). -/
def statusRunBytes (r : Option StatusRun) : List Byte :=
  match r with
  | some x =>
    markByte true ++ number 1 (x.sheet.val + 1) ++ number 1 x.k0 ++ chainageBytes x.c0 ++ invertBytes x.base
      ++ number 1 x.phase.ctorIdx ++ number 1 x.index ++ chainageBytes x.start ++ invertBytes x.invert
      ++ chainageBytes x.finish ++ stagedBytes x.staged ++ optionalChainage x.frozen
  | none => markByte false

/-- The LOST drive NONE, UP or DOWN, with its level and its timer's due time, which NONE does not have (R100, log
18). -/
def lostDriveBytes (d : Option LostDrive) : List Byte :=
  match d with
  | some x => number 1 (x.dir.ctorIdx + 1) ++ number 2 x.level ++ timeBytes x.due
  | none => number 1 0

/-- The loop state and each field that is present (R100); a timer is sent as its due time (log 18). -/
def loopStateBytes : StatusLoopState → List Byte
  | .acquiring => number 1 LoopName.acquiring.ctorIdx
  | .tracking due => number 1 LoopName.tracking.ctorIdx ++ timeBytes due
  | .coasting start => number 1 LoopName.coasting.ctorIdx ++ chainageBytes start
  | .searching dir level start due flips =>
    number 1 (match dir with
      | .up => LoopName.searchUp.ctorIdx
      | .down => LoopName.searchDown.ctorIdx) ++ number 1 dir.ctorIdx ++ number 2 level ++ chainageBytes start
      ++ timeBytes due ++ number 1 flips
  | .lost drive => number 1 LoopName.lost.ctorIdx ++ lostDriveBytes drive

/-- The errors of a decision record, or none of them (R96). -/
def errorBytes (e : Option ErrorPart) : List Byte :=
  match e with
  | some x => markByte true ++ number 3 x.target ++ number 3 x.error ++ number 3 x.filtered ++ number 1 x.count
  | none => markByte false ++ List.replicate 10 0

/-- A decision record in the order of R96. The design invert at a target chainage behind the segment's start can lie
below 0 by as much as a rise, so that it needs 3 bytes, signed (R54, R183). The marks before ct and P(ct) tell whether it is
a DIG's (DESIGN CHOICE, log 18). -/
def recordBytes (r : DecisionRecord) : List Byte :=
  chainageBytes r.chainage ++ optionalChainage (r.line.map (·.ct)) ++ number 1 r.tilt ++ number 1 r.drop
    ++ number 2 r.depth ++ optionalBytes 3 (r.line.map (·.plane)) ++ number 3 ((r.line.map (·.invert)).getD 0)
    ++ errorBytes r.errors ++ number 1 r.decision.ctorIdx ++ number 2 r.wanted ++ number 2 r.slewed
    ++ number 2 r.final ++ number 1 r.settle ++ markByte r.reverseHold ++ number 1 r.limit.ctorIdx

/-- The decision record of a loop context, an optional field (R71, R183): its mark and the 39 bytes of a record, which
are 0 when it is absent. -/
def optionalRecord : Option DecisionRecord → List Byte
  | some r => markByte true ++ recordBytes r
  | none => markByte false ++ List.replicate 39 0

/-- The operation kind of a loop context, coded as R183 codes the operation kinds. -/
def loopKindCode : LoopKind → Nat
  | .dig => OpKind.dig.ctorIdx
  | .plunge => OpKind.plunge.ctorIdx
  | .hold => OpKind.hold.ctorIdx

/-- A list of at most 255 numbers of n bytes each: a byte that holds its length, then the numbers. R183 does not say
how a list is sent (DESIGN CHOICE, log 18). -/
def listBytes (n : Nat) (l : List Int) : List Byte := number 1 l.length ++ l.flatMap (number n)

/-- The loop context in the order of R71 (R192), after a mark that there is one (log 18). -/
def statusLoopBytes (l : Option StatusLoop) : List Byte :=
  match l with
  | some x =>
    markByte true ++ number 1 (loopKindCode x.kind) ++ loopStateBytes x.state ++ number 1 x.shallow ++ number 1 x.deep
      ++ listBytes 3 x.window ++ number 1 x.settle
      ++ optionalBytes 1 (x.holdCount.map fun n => (n : Int)) ++ optionalBytes 2 (x.target.map (·.depth))
      ++ markByte ((x.target.map (·.latched)).getD false)
      ++ optionalRecord x.record
  | none => markByte false

/-- The gap with its start, its distance and the distance run of it (R180), as an optional field. -/
def gapBytes (g : Option (Gap × Nat)) : List Byte :=
  match g with
  | some (x, run) => markByte true ++ chainageBytes x.start ++ number 2 x.distance ++ number 2 run
  | none => markByte false ++ List.replicate 7 0

/-- The shadow mark, and while it is set σ, Ds and the gap (R192, log 18). -/
def statusShadowBytes (m : Option StatusShadow) : List Byte :=
  match m with
  | some x => markByte true ++ number 2 x.stroke ++ number 2 x.ds ++ gapBytes x.gap
  | none => markByte false

/-- A STATUS reply, in the order of R192. The internal permit and the PERMIT pin (R170) are each sent as a mark that is
set while it is asserted, although the level of the asserted pin is low (DESIGN CHOICE, log 18). -/
def statusBytes (r : StatusReply) : List Byte :=
  markByte r.faulted ++ healthByte r.health ++ lastFaultBytes r.record ++ number 1 r.seq.ctorIdx ++ statusOpBytes r.op
    ++ pauseByte r.pause ++ number 2 r.v ++ number 2 r.raiseDuty ++ number 2 r.lowerDuty ++ markByte r.permit
    ++ markByte r.pin ++ number 2 r.stroke ++ number 2 r.tilt ++ chainageBytes r.chainage ++ number 1 r.source.ctorIdx
    ++ optionalChainage r.chw ++ number 1 r.still.ctorIdx ++ statusRunBytes r.run ++ statusLoopBytes r.loop
    ++ number 1 r.tieState.ctorIdx ++ statusShadowBytes r.shadow ++ markByte r.lineOn ++ maskBytes r.flags
    ++ number 1 r.reports

/-! ## Contents and frame -/

/-- The part identifier, "LZ340" (R192). -/
def partIdentifier : List Byte := [0x4C, 0x5A, 0x33, 0x34, 0x30]

/-- A sheet's header, absent while the sheet is EMPTY, which the state sent before it tells (R43, log 18). -/
def sheetHeaderBytes (h : Option Header) : List Byte :=
  match h with
  | some x => headerBytes x
  | none => []

/-- The contents of a reply in bytes. The revision number of IDENTIFY, of which the spec gives no range, takes 1 byte
(DESIGN CHOICE, log 18). -/
def contentBytes : Contents → List Byte
  | .none => []
  | .identify revision address elapsed =>
    partIdentifier ++ number 1 revision ++ number 1 address ++ timeBytes elapsed
  | .status r => statusBytes r
  | .poll r left => pollBytes r left
  | .flags f e => maskBytes f ++ maskBytes e
  | .cleared f => maskBytes f
  | .counts c => countBytes c
  | .constant c v => constantBytes c v
  | .constantRow c v row =>
    constantBytes c v ++ constantBytes c row.lo ++ constantBytes c row.hi ++ constantBytes c row.default
  | .appended index count total => number 1 index ++ number 1 count ++ number 3 total
  | .sealedSheet count total rise => number 1 count ++ number 3 total ++ invertBytes rise
  | .sheet state header count total rise inUse =>
    number 1 state.ctorIdx ++ sheetHeaderBytes header ++ number 1 count ++ number 3 total ++ invertBytes rise
      ++ number 1 inUse
  | .segment g offset before rise => segmentBytes g ++ number 3 offset ++ invertBytes before ++ invertBytes rise
  | .plane e => planeBytes e
  | .enqueued position count => number 1 position ++ number 1 count
  | .queue r => queueBytes r
  | .resumed exchanged removed => markByte exchanged ++ markByte removed
  | .tie r => tieReplyBytes r

/-- A frame with its CRC: sync, address byte, kind, tag, length, body and CRC (R183). -/
def frameOf (address kind tag : Nat) (body : List Byte) : List Byte :=
  let covered := [BitVec.ofNat 8 address, BitVec.ofNat 8 kind, BitVec.ofNat 8 tag, BitVec.ofNat 8 body.length] ++ body
  cabSync :: covered ++ number 2 (crc16 covered).toNat

/-- The body of a reply: the result code, then the contents (R183). -/
def replyBody (r : Reply) : List Byte := number 1 r.result.ctorIdx ++ contentBytes r.contents

/-- The frame of a reply, from this node: the low nibble of its address byte is 1 (R183). A reply whose contents take
more than the 48 bytes of a body has no frame: a STATUS while an operation executes or a shadow run is on, and a
READ_QUEUE of several operations may (DESIGN CHOICE, log 18). -/
def replyFrame (address : Nat) (r : Reply) : Option (List Byte) :=
  if (replyBody r).length ≤ bodyTop then some (frameOf (16 * address + 1) r.kind r.tag (replyBody r)) else none

end Sys2Proof.Machine
end

