-- ==== Sys2Proof/Machine/Dispatch.lean ====
section
/-! DEFINITION. The meaning of every command: one arm for each constructor of Instr. -/

namespace Sys2Proof.Machine

/-- The effect of a command on everything but the queue of commands. -/
def exec (i : Instr) (s : State) : Host.Outcome State Fault Refusal :=
  match i with
  | .powerOn addr0 addr1 wheel first => Sys2Proof.Machine.execPowerOn addr0 addr1 wheel first s
  | .mastByte data parity stop => Sys2Proof.Machine.execMastByte data parity stop s
  | .mastGapTimerExpiry => Sys2Proof.Machine.execMastGapTimerExpiry s
  | .strikeTake => Sys2Proof.Machine.execStrikeTake s
  | .gradeLoopStrike => Sys2Proof.Machine.execGradeLoopStrike s
  | .benchStrike => Sys2Proof.Machine.execBenchStrike s
  | .tieStrike => Sys2Proof.Machine.execTieStrike s
  | .wheelTransition pair => Sys2Proof.Machine.execWheelTransition pair s
  | .stillnessTimerExpiry => Sys2Proof.Machine.execStillnessTimerExpiry s
  | .beamAgeTimerExpiry => Sys2Proof.Machine.execBeamAgeTimerExpiry s
  | .searchTimerExpiry => Sys2Proof.Machine.execSearchTimerExpiry s
  | .lostDriveTimerExpiry => Sys2Proof.Machine.execLostDriveTimerExpiry s
  | .tieTimerExpiry => Sys2Proof.Machine.execTieTimerExpiry s
  | .dwellTimerExpiry => Sys2Proof.Machine.execDwellTimerExpiry s
  | .sampleTick r => Sys2Proof.Machine.execSampleTick r s
  | .shadowPeriodTimerExpiry => Sys2Proof.Machine.execShadowPeriodTimerExpiry s
  | .cabByte data stop => Sys2Proof.Machine.execCabByte data stop s
  | .cabGapTimerExpiry => Sys2Proof.Machine.execCabGapTimerExpiry s
  | .replyComplete => Sys2Proof.Machine.execReplyComplete s
  | .unknownKindRequest tag kind => Sys2Proof.Machine.execUnknownKindRequest tag kind s
  | .identify tag => Sys2Proof.Machine.execIdentify tag s
  | .status tag => Sys2Proof.Machine.execStatus tag s
  | .poll tag => Sys2Proof.Machine.execPoll tag s
  | .readFlags tag => Sys2Proof.Machine.execReadFlags tag s
  | .clearFlags tag mask => Sys2Proof.Machine.execClearFlags tag mask s
  | .setEnables tag mask => Sys2Proof.Machine.execSetEnables tag mask s
  | .readCounts tag => Sys2Proof.Machine.execReadCounts tag s
  | .setConstant tag id value => Sys2Proof.Machine.execSetConstant tag id value s
  | .getConstant tag id => Sys2Proof.Machine.execGetConstant tag id s
  | .restart tag => Sys2Proof.Machine.execRestart tag s
  | .openSheet tag n header => Sys2Proof.Machine.execOpenSheet tag n header s
  | .appendSegment tag n length grade marker stopAtEnd => Sys2Proof.Machine.execAppendSegment tag n length grade marker stopAtEnd s
  | .sealSheet tag n => Sys2Proof.Machine.execSealSheet tag n s
  | .eraseSheet tag n => Sys2Proof.Machine.execEraseSheet tag n s
  | .readSheet tag n index => Sys2Proof.Machine.execReadSheet tag n index s
  | .definePlane tag entry sigLo sigHi slope => Sys2Proof.Machine.execDefinePlane tag entry sigLo sigHi slope s
  | .clearPlane tag entry => Sys2Proof.Machine.execClearPlane tag entry s
  | .readPlane tag entry => Sys2Proof.Machine.execReadPlane tag entry s
  | .mastLine tag setting => Sys2Proof.Machine.execMastLine tag setting s
  | .setChainage tag value => Sys2Proof.Machine.execSetChainage tag value s
  | .enqueue tag opTag op standing => Sys2Proof.Machine.execEnqueue tag opTag op standing s
  | .readQueue tag => Sys2Proof.Machine.execReadQueue tag s
  | .softAbort tag => Sys2Proof.Machine.execSoftAbort tag s
  | .stop broadcast tag => Sys2Proof.Machine.execStop broadcast tag s
  | .resume tag => Sys2Proof.Machine.execResume tag s
  | .tieStart tag entry n mode => Sys2Proof.Machine.execTieStart tag entry n mode s
  | .tieCommit tag => Sys2Proof.Machine.execTieCommit tag s
  | .tieCancel tag => Sys2Proof.Machine.execTieCancel tag s
  | .readTie tag => Sys2Proof.Machine.execReadTie tag s
  | .clearFault tag => Sys2Proof.Machine.execClearFault tag s
  | .shadowOn tag => Sys2Proof.Machine.execShadowOn tag s
  | .shadowOff tag => Sys2Proof.Machine.execShadowOff tag s
  | .shadowGap tag distance => Sys2Proof.Machine.execShadowGap tag distance s

end Sys2Proof.Machine
end

