-- ==== Sys2Proof/Safety.lean ====
section
/-! DEFINITION. What the claims speak of: the laws the spec says the part keeps, each a decidable statement about
one state. -/

namespace Sys2Proof.Safety

open Sys2Proof.Machine

/-! ## Constants, chainage and the port -/

/-- Every machine constant lies in its range, DRIVE_MIN is no greater than DRIVE_MAX and STROKE_BOTTOM lies at
least 100 below STROKE_TOP (R191). -/
abbrev ConstantsLaw (s : State) : Prop :=
  (∀ c ∈ [ConstId.mastLength, .wheelPitch, .driveMin, .driveMax, .gain, .slew, .settleCount, .holdShallowBand,
      .holdDeepBand, .lossTime, .coastDist, .searchDrive, .searchDist, .searchTime, .strokeTop, .strokeBottom,
      .coilMinRaise, .coilMinLower, .liftDrive, .pairWindow, .pairTime, .tieTolerance, .tieDist, .tieTime,
      .benchStrikes, .shadowSpeed, .shadowRate, .shadowPeriod],
    (constRow c).lo ≤ getConst s.clp.consts c ∧ getConst s.clp.consts c ≤ (constRow c).hi)
  ∧ s.clp.consts.driveMin ≤ s.clp.consts.driveMax ∧ s.clp.consts.strokeBottom + 100 ≤ s.clp.consts.strokeTop

/-- An operation's own start chainage, when it gives one, lies in the range of the part (section 8.1). -/
def startInRange : OpParams → Bool
  | .dig _ _ _ (some c) => decide (c ≤ 999999)
  | _ => true

/-- The accumulator lies within its ends (R26), with what it may be set to: the start chainages of the queued
DIGs and the set-aside accumulator of a shadow run. -/
abbrev ChainageLaw (s : State) : Prop :=
  s.cc.acc ≤ accTop ∧ (s.oq.ops.all fun op => startInRange op.params) = true
    ∧ (s.sm.all fun m => decide (m.setAside ≤ accTop)) = true

/-- The source is SHADOW exactly while a shadow run is on (R32). -/
abbrev SourceLaw (s : State) : Prop := s.cc.source = .shadow ↔ s.sm.isSome = true

/-- The report queue holds at most 8 records, and the ten counters stay at 65,535 once there (R189, R190). -/
abbrev PortLaw (s : State) : Prop :=
  s.clp.reports.length ≤ 8 ∧ s.clp.counters.overrun ≤ 65535 ∧ s.clp.counters.damaged ≤ 65535
    ∧ s.clp.counters.noise ≤ 65535 ∧ s.clp.counters.rejected ≤ 65535 ∧ s.clp.counters.foreign ≤ 65535
    ∧ s.clp.counters.shadowMasked ≤ 65535 ∧ s.clp.counters.wheelFault ≤ 65535
    ∧ s.clp.counters.cabDropped ≤ 65535 ∧ s.clp.counters.reportLost ≤ 65535
    ∧ s.clp.counters.benchRestart ≤ 65535

/-! ## The queue and the sheets it holds -/

/-- An operation that waits. -/
def isWaiting (op : Operation) : Bool := op.state == .waiting

/-- The head has begun and no other operation has (R140). -/
def onlyHeadBegun : List Operation → Bool
  | [] => true
  | op :: rest => !isWaiting op && rest.all isWaiting

/-- The operation queue holds at most 4 operations, of which the oldest alone has begun (R140), and the
sequencer is EXECUTING while it holds one, FAULTED while the part is, and IDLE otherwise (section 8.1). -/
abbrev QueueLaw (s : State) : Prop :=
  s.oq.ops.length ≤ 4 ∧ onlyHeadBegun s.oq.ops = true
    ∧ s.oq.seq = (if s.os.faulted then .faulted else if s.oq.ops.isEmpty then .idle else .executing)
    ∧ (s.os.faulted = true → s.oq.ops = [])

/-- The number of queued or executing DIGs that name a sheet. -/
def digsNaming (n : Fin 6) (ops : List Operation) : Nat :=
  ops.countP fun op => match op.params with
    | .dig m _ _ _ => m == n
    | _ => false

/-- A sheet's in-use count is the number of DIGs that name it, and a sheet in use is SEALED (R45). -/
abbrev SheetLaw (s : State) : Prop :=
  ∀ n : Fin 6, (sheetAt s n).inUse = digsNaming n s.oq.ops
    ∧ (0 < (sheetAt s n).inUse → isSealed (sheetAt s n).body = true)

/-! ## The planes -/

/-- The laws of the Plane Acceptance Table (R18): windows of two non-EMPTY entries never overlap, at most one
entry is ACTIVE, and the CANDIDATE is the one the tie in flight names. -/
abbrev PlaneLaw (s : State) : Prop :=
  ∀ i j : Fin 8,
    (i ≠ j → (entryAt s i).role ≠ .empty → (entryAt s j).role ≠ .empty →
      windowsOverlap (entryAt s i).sigLo (entryAt s i).sigHi (entryAt s j).sigLo (entryAt s j).sigHi = false)
    ∧ ((entryAt s i).role = .active → (entryAt s j).role = .active → i = j)
    ∧ ((entryAt s i).role = .candidate ↔ s.te.tie.map (·.candidate) = some i)

/-! ## The outputs -/

/-- The internal permit and the pin are as R169 forms them. -/
abbrev PermitLaw (s : State) : Prop := s.os.permit = permitHolds s ∧ s.os.pin = (permitHolds s && s.sm.isNone)

/-- The two coils are never driven together, and neither is driven while shadow is on, while the part is
FAULTED, or while the queue is empty (R161). -/
abbrev CoilLaw (s : State) : Prop :=
  (s.os.raiseDuty = 0 ∨ s.os.lowerDuty = 0)
    ∧ (dutiesHeld s = true → s.os.raiseDuty = 0 ∧ s.os.lowerDuty = 0)

/-! ## The contexts of the executing operation -/

/-- The kind of the executing operation. -/
def executingKind (s : State) : Option OpKind := (executing s).map fun x => kindOf x.1.params

/-- A kind that has a loop context (R71). -/
def hasLoop : Option OpKind → Bool
  | some .dig => true
  | some .plunge => true
  | some .hold => true
  | _ => false

/-- The run phase, when a run context exists. -/
def runPhase (s : State) : Option RunPhase := s.lt.map (·.phase)

/-- A run context and a high-water chainage exist exactly while a DIG executes (R27, R50), a loop context
exactly while a DIG, a HOLD or a PLUNGE does (R71), and a bench collector exactly while a DIG is BENCHING
(R118). -/
abbrev ContextLaw (s : State) : Prop :=
  (s.lt.isSome = true ↔ executingKind s = some .dig) ∧ (s.cc.chw.isSome = true ↔ executingKind s = some .dig)
    ∧ s.gl.loop.isSome = hasLoop (executingKind s) ∧ (s.te.bench.isSome = true ↔ runPhase s = some .benching)

/-- While a DIG executes chw is no less than c0 (R27), and no less than the chainage. -/
abbrev HighWaterLaw (s : State) : Prop :=
  (s.cc.chw.all fun h => decide (chainage s ≤ h) && s.lt.all fun r => decide (r.c0 ≤ h)) = true

/-! ## Lists that are bounded -/

/-- The error window holds at most 4 errors (R83). -/
abbrev WindowLaw (s : State) : Prop := (s.gl.loop.all fun l => decide (l.window.length ≤ 4)) = true

/-- A tie wants 2 to 16 pairs, never holds more than it wants, and while COLLECTING holds fewer (R118, R126). -/
abbrev PairLaw (s : State) : Prop :=
  (s.te.tie.all fun r => decide (2 ≤ r.n) && decide (r.n ≤ 16) && decide (r.pairs.length ≤ r.n)
    && (r.result.isSome || decide (r.pairs.length < r.n))) = true

/-! ## The drive level -/

/-- The bound of V in a loop state (R70, R100): a search and a LOST drive other than NONE go to
max(SEARCH_DRIVE, DRIVE_MIN), every other state to DRIVE_MAX. -/
def driveBound (k : Constants) : LoopState → Nat
  | .searching .. => fullLevel k
  | .lost (some _) => fullLevel k
  | _ => k.driveMax

/-- The levels held by a search or a LOST drive lie within max(SEARCH_DRIVE, DRIVE_MIN) (R100). -/
def levelBounded (k : Constants) : LoopState → Bool
  | .searching _ level _ _ _ _ => decide (level ≤ fullLevel k)
  | .lost (some d) => decide (d.level ≤ fullLevel k)
  | _ => true

/-- The bound of the drive level (R70): within the bound of the loop state while there is one, LIFT_DRIVE or a cut
0 during a LIFT, and 0 at all other times. -/
abbrev DriveLaw (s : State) : Prop :=
  match s.gl.loop with
  | some l => s.gl.v.natAbs ≤ driveBound s.clp.consts l.state ∧ levelBounded s.clp.consts l.state = true
  | none => s.gl.v = 0 ∨ (executingKind s = some .lift ∧ s.gl.v = s.clp.consts.liftDrive)

/-! ## Words the statements share -/

/-- The qualified strike a taken strike becomes when it matches an entry (R14). -/
abbrev qualified (x : Strike) (i : Fin 8) (beam : Beam) : QStrike :=
  { entry := i, beam := beam, chainage := x.chainage, time := x.time }

/-- The tilt of a measured depth formed now needs no clamp, so that no TILT_CLAMP fires (R74). -/
abbrev tiltUnclamped (s : State) : Prop := tiltNow s = tiltTenths (tiltSample s)

/-- A strike of the ACTIVE entry stands ready for the Grade Loop, which has this loop context (R73). -/
abbrev loopHas (q : QStrike) (l : LoopCtx) (s : State) : Prop :=
  s.sq.toLoop = some q ∧ s.gl.loop = some l ∧ activeEntry s = some q.entry

/-- A strike is ABOVE, which points up, or BELOW, which points down (R105). -/
abbrev pointsTo (beam : Beam) (dir : Direction) : Prop :=
  (beam = .above ∧ dir = .up) ∨ (beam = .below ∧ dir = .down)

/-- Nothing executes and nothing is held for an operation: the queue is empty, and no run context, loop context,
bench collector, tie or high-water chainage exists. -/
abbrev atRest (s : State) : Prop :=
  s.oq.ops = [] ∧ s.lt = none ∧ s.gl.loop = none ∧ s.te.bench = none ∧ s.te.tie = none ∧ s.cc.chw = none

/-- What the end of the last operation leaves behind: an empty queue, V and both duties 0, no context, no pause reason
and the permit withdrawn (R155). -/
abbrev queueEmptied (t : State) : Prop :=
  t.oq.ops = [] ∧ t.oq.pause = .none ∧ t.gl.v = 0 ∧ t.gl.loop = none ∧ t.lt = none ∧ t.cc.chw = none
    ∧ t.te.bench = none ∧ t.oq.dwellTimer = none ∧ t.os.raiseDuty = 0 ∧ t.os.lowerDuty = 0
    ∧ t.os.permit = false ∧ t.os.pin = false

/-- The last operation has ended and its OP_DONE flag is set (R155, R156). -/
abbrev queueDone (t : State) : Prop := queueEmptied t ∧ t.clp.flags.getLsbD 11 = true

/-- The pair that follows a pair in the forward or the backward order of section 2.1. -/
abbrev nextPair (forward : Bool) (p : WheelPair) : WheelPair :=
  if forward then { a := !p.b, b := p.a } else { a := p.b, b := !p.a }

/-- The accumulator one WHEEL_PITCH further in a direction (R25). -/
abbrev steppedTo (forward : Bool) (s : State) : Nat :=
  if forward then s.cc.acc + s.clp.consts.wheelPitch else s.cc.acc - s.clp.consts.wheelPitch

/-- A step of the wheel meets no end of the accumulator and changes the chainage (R25, R26). -/
abbrev stepsFreely (forward : Bool) (s : State) : Prop :=
  s.cc.source = .wheel ∧ 0 < steppedTo forward s ∧ steppedTo forward s < 999999999
    ∧ steppedTo forward s / 1000 ≠ s.cc.acc / 1000

/-- The executing operation is no HOLD whose distance the chainage c reaches (R148). -/
abbrev holdUnreached (c : Nat) (s : State) : Prop :=
  ∀ op info target distance, executing s = some (op, info) → op.params = .hold target distance →
    c < info.cycleChainage + distance

/-- Two strikes lie close enough, in chainage and in time, to make a pair, x being the later (R126). -/
abbrev closeTo (k : Constants) (x held : SlotStrike) : Prop :=
  x.chainage ≤ held.chainage + k.pairWindow ∧ held.chainage ≤ x.chainage + k.pairWindow
    ∧ (x.time - held.time).toNat ≤ k.pairTime

/-- The strike x that the Tie Engine takes makes a pair with the one the other slot holds: of an ACTIVE strike a and a
CANDIDATE strike c (R125, R126). -/
abbrev makesPair (q : QStrike) (r : TieRecord) (x a c : SlotStrike) (s : State) : Prop :=
  (s.sq.toTie = some (.candidate, q) ∧ (entryAt s q.entry).role = .candidate ∧ r.activeSlot = some a ∧ c = x
      ∧ closeTo s.clp.consts x a)
  ∨ (s.sq.toTie = some (.active, q) ∧ (entryAt s q.entry).role = .active ∧ r.candidateSlot = some c ∧ a = x
      ∧ closeTo s.clp.consts x c)

/-- A tie record with a pair appended, i being the ACTIVE entry and t its tie: the estimate of the candidate's plane is
carried back to the reference chainage, which the first pair fixes, and both slots are emptied (R127). -/
abbrev withPair (r : TieRecord) (a c : SlotStrike) (i : Fin 8) (t : Tie) (s : State) : TieRecord :=
  let ref := r.cRef.getD a.chainage
  let estimate := t.pb + roundDiv ((entryAt s i).slope * ((a.chainage : Int) - (t.cb : Int))) 100000
    + c.depth - a.depth
    - roundDiv ((entryAt s r.candidate).slope * ((a.chainage : Int) - (ref : Int))) 100000
  { r with activeSlot := none, candidateSlot := none, cRef := some ref
           pairs := r.pairs ++ [{ chainage := a.chainage, estimate := estimate }] }

/-- The values the port keeps through every event: address, receiver, requests in hand, reply, enables and
constants. -/
abbrev portKept (s t : State) : Prop :=
  t.clp.address = s.clp.address ∧ t.clp.rx = s.clp.rx ∧ t.clp.held = s.clp.held ∧ t.clp.inHand = s.clp.inHand
    ∧ t.clp.reply = s.clp.reply ∧ t.clp.enables = s.clp.enables ∧ t.clp.consts = s.clp.consts

end Sys2Proof.Safety
end

