-- ==== Sys2Proof/Certificates/Slice0/Obligations.lean ====
section
/-! DEFINITION. The statements for the provers. A statement that an effect is the model's own choice says so and
names its log entry. -/

open Sys2Proof Sys2Proof.Machine Sys2Proof.Safety

/-! ## The step, reset and power-on -/

/-- The command at the front of the queue is carried out by `exec` with the rest of the queue left waiting. -/
def Obligations.StepRunsTheFrontCommand : Prop :=
  ∀ (c : Instr) (rest : List Instr) (s : State),
    step { s with pending := c :: rest } = exec c { s with pending := rest }

/-- With no command waiting a received request is taken, and with none received a millisecond of the clock of R1
passes. That this happens on an empty queue is the model's choice (log 1). -/
def Obligations.EmptyQueueTakesARequestOrAMillisecond : Prop :=
  (∀ (s : State), s.pending = [] → s.clp.inHand = [] → step s = .next { s with clock := s.clock + 1 })
  ∧ (∀ (s : State) (r : Received) (l : List Received), s.pending = [] → s.clp.inHand = r :: l →
      step s = exec r.command s)

/-- No command stops the part: every command, in every state, answers a next state, with the commands that wait
as they were. -/
def Obligations.EveryCommandCompletes : Prop :=
  ∀ (i : Instr) (s : State), ∃ t, exec i s = .next t ∧ t.pending = s.pending

/-- The values the spec gives after power-on (R22, R33, R48, R98, R139, R159, R171, R182, R194); the straps and
the wheel levels, which the model sets to 0 (logs 5 and 6), are not among them. -/
def Obligations.ResetValues : Prop :=
  State.reset.clock = 0
  ∧ State.reset.mlr = { lineOn := true, rx := .hunting, slot := none }
  ∧ State.reset.sq = { toLoop := none, toBench := none, toTie := none, foreignLatch := false }
  ∧ (∀ i : Fin 8, entryAt State.reset i = PlaneEntry.cleared)
  ∧ (∀ n : Fin 6, sheetAt State.reset n = { body := .empty, inUse := 0 })
  ∧ State.reset.cc.acc = 0 ∧ State.reset.cc.limitLatch = false ∧ State.reset.cc.chw = none
  ∧ State.reset.cc.source = .wheel ∧ State.reset.cc.still = .moving ∧ State.reset.cc.anchor = 0
  ∧ State.reset.cc.stillTimer = some 1000 ∧ State.reset.lt = none ∧ State.reset.gl = { v := 0, loop := none }
  ∧ State.reset.te = { tie := none, bench := none, last := none }
  ∧ State.reset.oq = { ops := [], seq := .idle, pause := .none, dwellTimer := none }
  ∧ State.reset.os.raiseDuty = 0 ∧ State.reset.os.lowerDuty = 0 ∧ State.reset.os.raise.openCount = 0
  ∧ State.reset.os.lower.openCount = 0 ∧ State.reset.os.stroke = 0 ∧ State.reset.os.tilt = 0
  ∧ State.reset.os.faulted = false ∧ State.reset.os.record = none ∧ healthy State.reset.os.health = true
  ∧ State.reset.os.permit = false ∧ State.reset.os.pin = false ∧ State.reset.sm = none
  ∧ State.reset.clp.rx = .hunting ∧ State.reset.clp.flags = 0 ∧ State.reset.clp.enables = 0
  ∧ State.reset.clp.reports = [] ∧ State.reset.clp.seqNo = 0 ∧ State.reset.clp.counters = Counters.zero
  ∧ State.reset.clp.consts = defaultConstants

/-- Every law the other statements show kept holds at reset: the constants at their defaults (R191, R194), the chainage and
its source (R33), the port's queue and counters (R194), the operation queue (R159), the sheets (R48), the planes (R22), the
permit and the coils (R171), no context, window or drive (R50, R98), no tie (R139) and no shadow run (R182). -/
def Obligations.ResetHoldsTheLaws : Prop :=
  ConstantsLaw State.reset ∧ ChainageLaw State.reset ∧ PortLaw State.reset ∧ QueueLaw State.reset
  ∧ SheetLaw State.reset ∧ PlaneLaw State.reset ∧ PermitLaw State.reset ∧ CoilLaw State.reset
  ∧ ContextLaw State.reset ∧ HighWaterLaw State.reset ∧ WindowLaw State.reset ∧ PairLaw State.reset
  ∧ DriveLaw State.reset ∧ SourceLaw State.reset

/-- POWER_ON with sound wiring and a stroke in range leaves the reset values with the straps latched, the wheel
levels remembered and the first samples taken (R33, R171, R184, R194). A stroke reading out of range at the first
sampling leaves the part FAULTED with an empty queue, STROKE_RANGE recorded and the FAULT flag set (R159, R171). That the
model's own fields, the commands that wait and the count of free values, are kept is the model's choice (log 35). -/
def Obligations.PowerOn : Prop :=
  ∀ (a0 a1 : Bool) (w : WheelPair) (r : Readings) (s : State),
    (0 ≤ strokeReading r.stroke → strokeReading r.stroke ≤ 1000 → r.raise.path = true → r.lower.path = true →
      exec (.powerOn a0 a1 w r) s = .next
        { State.reset with
          cc := { State.reset.cc with pair := w }
          clp := { State.reset.clp with address := a0.toNat + 2 * a1.toNat }
          os := { State.reset.os with
            stroke := (strokeReading r.stroke).toNat
            tilt := tiltReading r.tilt
            raise := { openCount := 0, latest := .good }
            lower := { openCount := 0, latest := .good } }
          free := s.free
          pending := s.pending })
    ∧ (strokeReading r.stroke < 0 ∨ 1000 < strokeReading r.stroke →
      ∃ t, exec (.powerOn a0 a1 w r) s = .next t ∧ t.os.faulted = true ∧ t.oq.ops = [] ∧ t.oq.seq = .faulted
        ∧ t.os.record.map (·.cause) = some .strokeRange ∧ t.clp.flags = kindMask 14 ∧ t.os.stroke = 0
        ∧ t.os.permit = false)

/-! ## Events -/

/-- What a firing does (R188, R189): the flag of the event's kind is set whatever else; with the kind's enable clear
nothing more; with it set a record of the event, the sequence counter's value, the time and the chainage joins a queue
of fewer than 8 records, the counter rising by one and wrapping; at a full queue the record is dropped and REPORT_LOST
counts one. The kinds are numbered as section 11.3 numbers them. -/
def Obligations.FiringAppendsARecord : Prop :=
  (∀ (e : Event) (time : Time) (c : Nat) (p : Clp),
    let flagged : Clp := { p with flags := p.flags ||| (1#16 <<< eventNumber e) }
    (p.enables.getLsbD (eventNumber e) = false → fireIn e time c p = flagged)
    ∧ (p.enables.getLsbD (eventNumber e) = true → p.reports.length < 8 → fireIn e time c p = { flagged with
        reports := p.reports ++ [{ event := e, seqNo := p.seqNo, time := time, chainage := c }]
        seqNo := p.seqNo + 1 })
    ∧ (p.enables.getLsbD (eventNumber e) = true → 8 ≤ p.reports.length → fireIn e time c p = { flagged with
        counters := { p.counters with reportLost := countOne p.counters.reportLost } }))
  ∧ (∀ (i j k : Nat) (v : Int) (e e' : Fin 8) (t : Tie) (b : Bool) (ms : Time) (f : FaultRecord) (cause : LineCause)
      (m : Marker) (seg : SegmentEndCause) (dir : Direction) (from_ : SearchFrom) (lost : LostCause) (name : LoopName)
      (mode : TieMode) (why : TieReason) (spread : Option Int) (set : Option LoopName) (kind : OpKind)
      (out : OpOutcome) (reason : OpReason) (user : TiltUser),
    [Event.segmentChange i j v, .segmentEnd i j seg, .marker m i j, .runEnd i j v, .benchDone e t v i j k,
      .beamSearch dir from_ i, .beamLost lost name i v ms, .beamRegained name b v, .tieDone e t v i mode,
      .tieFailed e why i spread, .transfer e e' t set, .opDone i kind out reason j k, .reachLimit i v, .tiltClamp v v user,
      .fault f, .line cause].map eventNumber = List.range 16)

/-! ## The mast line -/

/-- A character in HUNTING: a clean 0xB4 starts a frame with the gap timer, and any other byte, clean or marked, is
dropped and counts one in NOISE, leaving no other trace. -/
def Obligations.MastByteInHunting : Prop :=
  ∀ (data : Byte) (parity stop : Bool) (s : State), s.mlr.lineOn = true → s.mlr.rx = .hunting →
    (marked data parity stop = false → data = 0xB4 →
      exec (.mastByte data parity stop) s
        = .next { s with mlr := { s.mlr with rx := .collecting [data] (s.clock + 2) } })
    ∧ (marked data parity stop = true ∨ data ≠ 0xB4 →
      exec (.mastByte data parity stop) s = .next { s with clp := { s.clp with
        counters := { s.clp.counters with noise := countOne s.clp.counters.noise } } })

/-- A character in COLLECTING. A clean byte that does not complete the frame is appended and the timer restarts (R5). A
marked byte (R5), the gap timer's expiry (R6) and a clean sixth byte that is not the check of bytes 1 to 4 (R7) discard
the frame and count one DAMAGED. A sixth byte that is the check makes a good frame, stamped with the chainage and the time
(R7): it fills an empty slot, replaces a waiting strike with one OVERRUN (R8), and during a shadow run is counted
SHADOW_MASKED and dropped (R10). LINE fires, naming the counter, when DAMAGED or OVERRUN rises to a multiple of 16 (R9). -/
def Obligations.MastByteInCollecting : Prop :=
  ∀ (data : Byte) (parity stop : Bool) (bytes : List Byte) (due : Time) (s : State),
    s.mlr.lineOn = true → s.mlr.rx = .collecting bytes due →
    let n := s.clp.counters.damaged
    let damaged : Clp := { s.clp with counters := { s.clp.counters with damaged := countOne n } }
    let discarded : State := { s with
      mlr := { s.mlr with rx := .hunting }
      clp := if n < 65535 ∧ (n + 1) % 16 = 0 then fireIn (.line (.mastLine .damaged)) s.clock (chainage s) damaged
             else damaged }
    (marked data parity stop = false → bytes.length < 5 →
      exec (.mastByte data parity stop) s
        = .next { s with mlr := { s.mlr with rx := .collecting (bytes ++ [data]) (s.clock + 2) } })
    ∧ (marked data parity stop = true → exec (.mastByte data parity stop) s = .next discarded)
    ∧ exec .mastGapTimerExpiry s = .next discarded
    ∧ (∀ sync sig first last status, bytes = [sync, sig, first, last, status] → marked data parity stop = false →
      data ≠ ~~~(sig + first + last + status) → exec (.mastByte data parity stop) s = .next discarded)
    ∧ (∀ sync sig first last status, bytes = [sync, sig, first, last, status] → marked data parity stop = false →
      data = ~~~(sig + first + last + status) →
      let x : Strike := { sig := sig, first := first, last := last, status := status, chainage := s.cc.acc / 1000,
                          time := s.clock, generated := false }
      let m := s.clp.counters.overrun
      let overrun : Clp := { s.clp with counters := { s.clp.counters with overrun := countOne m } }
      (s.sm = none → s.mlr.slot = none →
        exec (.mastByte data parity stop) s = .next { s with mlr := { s.mlr with rx := .hunting, slot := some x } })
      ∧ (s.sm = none → s.mlr.slot ≠ none → exec (.mastByte data parity stop) s = .next { s with
          mlr := { s.mlr with rx := .hunting, slot := some x }
          clp := if m < 65535 ∧ (m + 1) % 16 = 0 then fireIn (.line (.mastLine .overrun)) s.clock (chainage s) overrun
                 else overrun })
      ∧ (s.sm ≠ none → exec (.mastByte data parity stop) s = .next { s with
          mlr := { s.mlr with rx := .hunting }
          clp := { s.clp with
            counters := { s.clp.counters with shadowMasked := countOne s.clp.counters.shadowMasked } } }))

/-- MAST_LINE OFF empties the slot, discards a partial frame without a count and clears NOISE, DAMAGED and OVERRUN;
ON starts a line that was off in HUNTING and changes nothing of one that is on (R11). -/
def Obligations.MastLineOffAndOn : Prop :=
  ∀ (tag : Nat) (s : State),
    exec (.mastLine tag 0) s = .next (answer .mastLine tag .ok .none { s with
      mlr := { lineOn := false, rx := .hunting, slot := none }
      clp := { s.clp with counters := { s.clp.counters with noise := 0, damaged := 0, overrun := 0 } } })
    ∧ (s.mlr.lineOn = true → exec (.mastLine tag 1) s = .next (answer .mastLine tag .ok .none s))
    ∧ (s.mlr.lineOn = false → exec (.mastLine tag 1) s
        = .next (answer .mastLine tag .ok .none { s with mlr := { s.mlr with lineOn := true, rx := .hunting } }))
    ∧ (∀ setting, 2 ≤ setting → exec (.mastLine tag setting) s = .next (refuse .mastLine tag .badValue s))

/-! ## Strikes and planes -/

/-- Validation (R13, R14): a strike of status 0 is accepted when its span lies on the 96 cells and is no wider than 12,
with the offset first + last − 95, which lies in −95 to 95, and one off the cells, reversed or wider is not; the statuses
1, 2 and 3 are ABOVE, BELOW and SPLIT, and one above 3 is never accepted. A rejected strike is dropped with one REJECTED (R13), and an accepted one that matches no entry
with one FOREIGN, LINE firing with cause FOREIGN when it finds the foreign latch clear (R15). -/
def Obligations.StrikeTakeValidatesAndDrops : Prop :=
  (∀ (x : Strike) (b : Int),
    (validate x = some (.inWindow b) ↔
      x.status = 0 ∧ x.first.toNat ≤ x.last.toNat ∧ x.last.toNat ≤ 95 ∧ x.last.toNat - x.first.toNat + 1 ≤ 12
        ∧ b = (x.first.toNat : Int) + (x.last.toNat : Int) - 95)
    ∧ (validate x = some (.inWindow b) → -95 ≤ b ∧ b ≤ 95)
    ∧ (x.status = 0 → x.last.toNat < x.first.toNat ∨ 95 < x.last.toNat ∨ x.first.toNat + 12 ≤ x.last.toNat →
        validate x = none)
    ∧ (x.status = 1 → validate x = some .above) ∧ (x.status = 2 → validate x = some .below)
    ∧ (x.status = 3 → validate x = some .split) ∧ (3 < x.status.toNat → validate x = none)) ∧
  ∀ (x : Strike) (s : State), s.mlr.slot = some x → qualifierIdle s = true →
    (validate x = none → exec .strikeTake s = .next { s with
      mlr := { s.mlr with slot := none }
      clp := { s.clp with counters := { s.clp.counters with rejected := countOne s.clp.counters.rejected } } })
    ∧ (∀ beam, validate x = some beam → matchingEntry s x.sig.toNat = none → s.sq.foreignLatch = true →
      exec .strikeTake s = .next { s with
        mlr := { s.mlr with slot := none }
        clp := { s.clp with counters := { s.clp.counters with foreign := countOne s.clp.counters.foreign } } })
    ∧ (∀ beam, validate x = some beam → matchingEntry s x.sig.toNat = none → s.sq.foreignLatch = false →
      exec .strikeTake s = .next { s with
        mlr := { s.mlr with slot := none }
        sq := { s.sq with foreignLatch := true }
        clp := fireIn (.line .foreign) s.clock (chainage s) { s.clp with
          counters := { s.clp.counters with foreign := countOne s.clp.counters.foreign } } })

/-- A strike that matches an entry updates it (R16) and goes where the entry's role and the executing operation
send it (R17); the other entries are as they were. -/
def Obligations.StrikeTakeRecordsAndRoutes : Prop :=
  ∀ (x : Strike) (i : Fin 8) (beam : Beam) (s : State), s.mlr.slot = some x → qualifierIdle s = true →
    validate x = some beam → matchingEntry s x.sig.toNat = some i →
    ∃ t, exec .strikeTake s = .next t
      ∧ t = { s with mlr := { s.mlr with slot := none }, pat := t.pat, sq := t.sq }
      ∧ t.sq.foreignLatch = s.sq.foreignLatch
      ∧ entryAt t i = { entryAt s i with
          matched := true, count := countOne (entryAt s i).count,
          last := some { beam := beam, chainage := x.chainage, time := x.time } }
      ∧ (∀ j, j ≠ i → entryAt t j = entryAt s j)
      ∧ ((entryAt s i).role = .candidate →
          t.sq.toLoop = none ∧ t.sq.toBench = none ∧ t.sq.toTie = some (.candidate, qualified x i beam))
      ∧ ((entryAt s i).role = .standby ∨ (entryAt s i).role = .retired →
          t.sq.toLoop = none ∧ t.sq.toBench = none ∧ t.sq.toTie = none)
      ∧ ((entryAt s i).role = .active →
          t.sq.toTie = (if tieState s = .collecting then some (.active, qualified x i beam) else none)
          ∧ (executingKind s = some .dig → runPhase s = some .benching →
              t.sq.toLoop = none ∧ t.sq.toBench = some (qualified x i beam))
          ∧ (∀ p, executingKind s = some .dig → runPhase s = some p → p ≠ .benching →
              t.sq.toLoop = some (qualified x i beam) ∧ t.sq.toBench = none)
          ∧ (executingKind s = some .plunge ∨ executingKind s = some .hold →
              t.sq.toLoop = some (qualified x i beam) ∧ t.sq.toBench = none)
          ∧ (executingKind s = some .lift ∨ executingKind s = some .dwell ∨ executingKind s = none →
              t.sq.toLoop = none ∧ t.sq.toBench = none))

/-- DEFINE_PLANE taken: the entry becomes STANDBY with the given window and slope, no tie, no count, no match flag
and no last strike, and its refusals in their order (R19). -/
def Obligations.DefinePlane : Prop :=
  ∀ (tag lo hi : Nat) (p : Int) (i : Fin 8) (s : State),
    (lo ≤ hi → -10000 ≤ p → p ≤ 10000 → inWork (entryAt s i).role = false → overlapsOther i lo hi s = false →
      exec (.definePlane tag i.val lo hi p) s = .next (answer .definePlane tag .ok .none { s with
        pat := s.pat.set i.val { role := .standby, sigLo := lo, sigHi := hi, slope := p, tie := none, count := 0,
                                 matched := false, last := none } }))
    ∧ (hi < lo ∨ p < -10000 ∨ 10000 < p →
      exec (.definePlane tag i.val lo hi p) s = .next (refuse .definePlane tag .badValue s))
    ∧ (lo ≤ hi → -10000 ≤ p → p ≤ 10000 → inWork (entryAt s i).role = true →
      exec (.definePlane tag i.val lo hi p) s = .next (refuse .definePlane tag .state s))
    ∧ (lo ≤ hi → -10000 ≤ p → p ≤ 10000 → inWork (entryAt s i).role = false → overlapsOther i lo hi s = true →
      exec (.definePlane tag i.val lo hi p) s = .next (refuse .definePlane tag .overlap s))
    ∧ (∀ entry, 8 ≤ entry →
      exec (.definePlane tag entry lo hi p) s = .next (refuse .definePlane tag .badValue s))

/-- CLEAR_PLANE makes an entry that is neither ACTIVE nor CANDIDATE EMPTY, and its window then matches no signature;
an entry already EMPTY is left as it was; it is refused with BAD_VALUE for an entry above 7 and with STATE for one in
work (R20). -/
def Obligations.ClearPlane : Prop :=
  ∀ (tag : Nat) (i : Fin 8) (s : State),
    ((entryAt s i).role ≠ .active → (entryAt s i).role ≠ .candidate →
      exec (.clearPlane tag i.val) s
        = .next (answer .clearPlane tag .ok .none { s with pat := s.pat.set i.val PlaneEntry.cleared }))
    ∧ ((entryAt s i).role = .active ∨ (entryAt s i).role = .candidate →
      exec (.clearPlane tag i.val) s = .next (refuse .clearPlane tag .state s))
    ∧ (∀ entry, 8 ≤ entry → exec (.clearPlane tag entry) s = .next (refuse .clearPlane tag .badValue s))
    ∧ (∀ sig, matchesSig PlaneEntry.cleared sig = false)
    ∧ (entryAt s i = PlaneEntry.cleared → s.pat.set i.val PlaneEntry.cleared = s.pat)

/-- READ_PLANE places the entry in the reply as it stands and clears its match flag alone; it is refused with BAD_VALUE
for an entry above 7 (R21). -/
def Obligations.ReadPlane : Prop :=
  ∀ (tag : Nat) (i : Fin 8) (s : State),
    exec (.readPlane tag i.val) s = .next (answer .readPlane tag .ok (.plane (entryAt s i)) { s with
      pat := s.pat.set i.val { entryAt s i with matched := false } })
    ∧ (∀ entry, 8 ≤ entry → exec (.readPlane tag entry) s = .next (refuse .readPlane tag .badValue s))

/-! ## Chainage -/

/-- A wheel transition while the source is WHEEL (R24 to R26): a forward or backward step that leaves the whole
millimetres as they were and meets no end moves the accumulator by WHEEL_PITCH and changes nothing else; a double
change counts WHEEL_FAULT; with the source SHADOW only the remembered pair follows. -/
def Obligations.WheelTransition : Prop :=
  ∀ (a b : Bool) (s : State), s.cc.pair = { a := a, b := b } →
    (s.cc.source = .wheel → s.cc.acc + s.clp.consts.wheelPitch < 999999999 →
      0 < s.clp.consts.wheelPitch → (s.cc.acc + s.clp.consts.wheelPitch) / 1000 = s.cc.acc / 1000 →
      exec (.wheelTransition { a := !b, b := a }) s = .next (formPermit { s with cc := { s.cc with
        pair := { a := !b, b := a }, acc := s.cc.acc + s.clp.consts.wheelPitch, limitLatch := false } }))
    ∧ (s.cc.source = .wheel → s.clp.consts.wheelPitch < s.cc.acc → s.cc.acc < 999999999 →
      (s.cc.acc - s.clp.consts.wheelPitch) / 1000 = s.cc.acc / 1000 →
      exec (.wheelTransition { a := b, b := !a }) s = .next (formPermit { s with cc := { s.cc with
        pair := { a := b, b := !a }, acc := s.cc.acc - s.clp.consts.wheelPitch, limitLatch := false } }))
    ∧ (s.cc.source = .wheel → exec (.wheelTransition { a := !a, b := !b }) s = .next (formPermit { s with
        cc := { s.cc with pair := { a := !a, b := !b } }
        clp := { s.clp with
          counters := { s.clp.counters with wheelFault := countOne s.clp.counters.wheelFault } } }))
    ∧ (s.cc.source = .shadow → ∀ p, exec (.wheelTransition p) s = .next { s with cc := { s.cc with pair := p } })

/-- A step of a part at rest, forward or backward: the accumulator moves by WHEEL_PITCH and stops at 0 and at 999,999,999
µm (R25, R26). A step that would pass an end sets the limit latch, LINE firing with the end reached when it was clear; one
that lands on an end exactly leaves the latch; one that ends between clears it. A chainage more than 5 mm from the anchor
moves the anchor, restarts the stillness timer and makes the detector MOVING (R28). -/
def Obligations.StepAtRest : Prop :=
  ∀ (forward : Bool) (s : State), s.cc.source = .wheel → atRest s →
    let size := s.clp.consts.wheelPitch
    let past : Prop := if forward then 999999999 < s.cc.acc + size else s.cc.acc < size
    ∃ t, exec (.wheelTransition (nextPair forward s.cc.pair)) s = .next t
      ∧ t.cc.acc = (if forward then min (s.cc.acc + size) 999999999 else s.cc.acc - size)
      ∧ t.cc.pair = nextPair forward s.cc.pair ∧ t.cc.source = .wheel ∧ t.cc.chw = none
      ∧ (past → t.cc.limitLatch = true
          ∧ (s.cc.limitLatch = true → t.clp = s.clp)
          ∧ (s.cc.limitLatch = false → ∃ c,
              t.clp = fireIn (.line (.chainageLimit (if forward then .high else .low))) s.clock c s.clp))
      ∧ ((if forward then s.cc.acc + size = 999999999 ∧ 0 < size else s.cc.acc = size ∧ 0 < size) →
          t.cc.limitLatch = s.cc.limitLatch ∧ t.clp = s.clp)
      ∧ (0 < t.cc.acc → t.cc.acc < 999999999 → t.cc.limitLatch = false ∧ t.clp = s.clp)
      ∧ (t.cc.acc / 1000 ≠ s.cc.acc / 1000 →
          s.cc.anchor + 5 < t.cc.acc / 1000 ∨ t.cc.acc / 1000 + 5 < s.cc.anchor →
          t.cc.still = .moving ∧ t.cc.anchor = t.cc.acc / 1000 ∧ t.cc.stillTimer = some (s.clock + 1000))
      ∧ (t.cc.acc / 1000 ≤ s.cc.anchor + 5 → s.cc.anchor ≤ t.cc.acc / 1000 + 5 →
          t.cc.still = s.cc.still ∧ t.cc.anchor = s.cc.anchor ∧ t.cc.stillTimer = s.cc.stillTimer)
      ∧ t.pat = s.pat ∧ t.ss = s.ss ∧ t.mlr = s.mlr ∧ t.sq = s.sq ∧ t.oq = s.oq ∧ t.gl = s.gl ∧ t.te = s.te
      ∧ t.sm = s.sm ∧ portKept s t

/-- A forward step during a tracked run (R27, R57 to R59, R64). A chainage above chw raises it and no other does. In
RUNNING a chw that reaches the end of the current segment makes the staged segment current, with SEGMENT_CHANGE and
MARKER fired and the error window cleared, when the run advances by itself; it halts the run in SEGMENT_HOLD, with the
pause reason and SEGMENT_END, at a stop or without AUTO_ADVANCE; and with nothing staged it ends the run, with RUN_END,
the DIG completing DONE at once where the detector was STILL. Short of the end, or in another phase, nothing else changes.
That the detector is read there as it stood before the step that reaches the end is the model's own order (log 12). The
part is in no shadow run, as the source WHEEL says in every state a run reaches (R32). -/
def Obligations.TravelDuringARun : Prop :=
  ∀ (r : RunCtx) (l : LoopCtx) (due : Time) (high : Nat) (s : State),
    stepsFreely true s → s.sm = none → s.lt = some r → s.cc.chw = some high → chainage s ≤ high → s.gl.loop = some l →
    l.state = .tracking due → s.te.tie = none → s.te.bench = none → executingKind s = some .dig →
    let c := steppedTo true s / 1000
    let finish := r.cur.cs + r.cur.length
    let segments := segmentsOf (sheetAt s r.sheet).body
    let advances := (headerIn (sheetAt s r.sheet).body).map (·.autoAdvance)
    let after : (State → Prop) → Prop := fun P =>
      ∃ t, exec (.wheelTransition (nextPair true s.cc.pair)) s = .next t ∧ t.cc.acc = steppedTo true s ∧ P t
        ∧ t.pat = s.pat ∧ t.te = s.te ∧ t.sm = s.sm ∧ t.mlr = s.mlr ∧ t.sq = s.sq ∧ portKept s t
    (c ≤ high → after fun t => t.cc.chw = some high ∧ t.lt = some r ∧ t.gl = s.gl ∧ t.oq = s.oq ∧ t.clp = s.clp
      ∧ t.ss = s.ss)
    ∧ (high < c → r.phase ≠ .running ∨ c < finish → after fun t => t.cc.chw = some c ∧ t.lt = some r ∧ t.gl = s.gl
      ∧ t.oq = s.oq ∧ t.clp = s.clp ∧ t.ss = s.ss)
    ∧ (∀ st g, high < c → r.phase = .running → finish ≤ c → r.staged = some st → r.cur.stopAtEnd = false →
      advances = some true → segments[st.index]? = some g → c < st.cs + g.length →
      after fun t => t.cc.chw = some c
        ∧ t.lt = some { r with
            cur := { index := st.index, cs := st.cs, invert := st.invert, grade := g.grade, length := g.length
                     marker := g.marker, stopAtEnd := g.stopAtEnd }
            staged := if st.index + 1 < segments.length then
                some { index := st.index + 1, cs := st.cs + g.length
                       invert := st.invert + (riseOf g.grade g.length : Int) }
              else none }
        ∧ t.gl = { s.gl with loop := some { l with
            window := [], settle := s.clp.consts.settleCount, holdCount := 0 } }
        ∧ (let changed := fireIn (.segmentChange st.index st.cs st.invert) s.clock c s.clp
           t.clp = if g.marker = .none then changed else fireIn (.marker g.marker st.index st.cs) s.clock c changed)
        ∧ t.oq = s.oq ∧ t.ss = s.ss)
    ∧ (∀ st, high < c → r.phase = .running → finish ≤ c → r.staged = some st →
      r.cur.stopAtEnd = true ∨ advances = some false →
      after fun t => t.cc.chw = some c ∧ t.lt = some { r with frozen := some st.cs, phase := .segmentHold }
        ∧ t.oq = { s.oq with pause := { s.oq.pause with segmentHold := true } } ∧ t.os.permit = false ∧ t.gl = s.gl
        ∧ t.clp = fireIn (.segmentEnd r.cur.index st.cs (if r.cur.stopAtEnd then .stopAtEnd else .noAdvance))
            s.clock c s.clp
        ∧ t.ss = s.ss)
    ∧ (high < c → r.phase = .running → finish ≤ c → r.staged = none →
      let ended := fireIn (.runEnd r.cur.index finish
        (r.cur.invert + roundDiv ((r.cur.grade : Int) * (r.cur.length : Int)) 100000)) s.clock c s.clp
      (s.cc.still = .moving → after fun t => t.cc.chw = some c ∧ t.os.permit = false
        ∧ t.lt = some { r with frozen := some finish, phase := .ended } ∧ t.gl = s.gl ∧ t.oq = s.oq ∧ t.clp = ended
        ∧ t.ss = s.ss)
      ∧ (∀ op, s.cc.still = .still → s.oq.ops = [op] → after fun t => queueDone t
        ∧ t.clp = fireIn (.opDone op.tag .dig .done .runEnd 0 0) s.clock c ended))

/-- A step that changes the chainage, in either direction, against the limits that watch it, chw not being passed. A coast
beyond COAST_DIST (R106) and a search beyond SEARCH_DIST (R108) end in LOST; a sampling bench more than 20 mm from its
reference restarts for movement (R122); a COLLECTING tie beyond TIE_DIST ends with reason DISTANCE (R129); a HOLD that
reaches its distance completes DONE, or begins its next cycle when it stands and nothing waits behind it (R148, R149).
Short of each limit nothing changes, and travel backward brings those of a start chainage no nearer. That a restarted bench
samples at once when the same step left the detector STILL, and not as it stood before, is the model's own order (log
12). -/
def Obligations.TravelMeetsTheLimits : Prop :=
  ∀ (forward : Bool) (s : State), stepsFreely forward s →
    (∀ high, s.cc.chw = some high → steppedTo forward s / 1000 ≤ high) →
    let c := steppedTo forward s / 1000
    let k := s.clp.consts
    let after : (State → Prop) → Prop := fun P =>
      ∃ t, exec (.wheelTransition (nextPair forward s.cc.pair)) s = .next t ∧ t.cc.acc = steppedTo forward s ∧ P t
        ∧ t.ss = s.ss ∧ t.mlr = s.mlr ∧ t.sq = s.sq ∧ portKept s t
    let unmoved : State → Prop := fun t => t.gl = s.gl ∧ t.oq = s.oq ∧ t.te = s.te ∧ t.clp = s.clp ∧ t.pat = s.pat
    let lostBy : LoopCtx → LostCause → LoopName → Nat → Nat → Time → State → Prop :=
      fun l cause left flips start since t =>
        t.gl = { v := 0, loop := some { l with state := .lost none } }
        ∧ t.oq = { s.oq with pause := { s.oq.pause with beam := true, resumeWait := false } }
        ∧ t.os.raiseDuty = 0 ∧ t.os.lowerDuty = 0 ∧ t.os.permit = false ∧ t.te = s.te ∧ t.pat = s.pat ∧ t.lt = s.lt
        ∧ t.clp = fireIn (.beamLost cause left flips ((c : Int) - (start : Int)) (s.clock - since)) s.clock c s.clp
    (∀ l start since, s.gl.loop = some l → l.state = .coasting start since → s.te.bench = none → s.te.tie = none →
      holdUnreached c s →
      (start + k.coastDist < c → after (lostBy l .coast .coasting 0 start since))
      ∧ (c ≤ start + k.coastDist → after unmoved))
    ∧ (∀ l dir level start due flips since, s.gl.loop = some l →
      l.state = .searching dir level start due flips since → s.te.bench = none → s.te.tie = none →
      holdUnreached c s →
      (start + k.searchDist < c →
        after (lostBy l .distance (match dir with
          | .up => .searchUp
          | .down => .searchDown) flips start since))
      ∧ (c ≤ start + k.searchDist → after unmoved))
    ∧ (∀ b ref, s.te.bench = some b → b.reference = some ref → b.sampling = true →
      (∀ l, s.gl.loop = some l → l.state = .acquiring) → s.te.tie = none → holdUnreached c s →
      (ref + 20 < c ∨ c + 20 < ref → after fun t =>
        t.te = { s.te with bench := some {
          sampling := decide (t.cc.still = .still), samples := [], reference := none
          moveRestarts := countOne b.moveRestarts, spreadRestarts := b.spreadRestarts } }
        ∧ t.clp = { s.clp with
            counters := { s.clp.counters with benchRestart := countOne s.clp.counters.benchRestart } }
        ∧ t.gl = s.gl ∧ t.oq = s.oq ∧ t.pat = s.pat)
      ∧ (c ≤ ref + 20 → ref ≤ c + 20 → after unmoved))
    ∧ (∀ r, s.te.tie = some r → s.te.bench = none → (∀ l, s.gl.loop = some l → ∃ due, l.state = .tracking due) →
      holdUnreached c s →
      (r.result = none → r.startChainage + k.tieDist < c → after fun t =>
        t.te = { s.te with tie := none, last := some (.failed r.candidate .distance r.pairs.length none) }
        ∧ entryAt t r.candidate = { entryAt s r.candidate with role := .standby, tie := none }
        ∧ (∀ j, j ≠ r.candidate → entryAt t j = entryAt s j) ∧ t.gl = s.gl ∧ t.oq = s.oq
        ∧ t.clp = fireIn (.tieFailed r.candidate .distance r.pairs.length none) s.clock c s.clp)
      ∧ (r.result ≠ none ∨ c ≤ r.startChainage + k.tieDist → after unmoved))
    ∧ (∀ op rest info target distance l due, s.oq.ops = op :: rest → op.state = .executing info →
      op.params = .hold target distance → s.gl.loop = some l → l.state = .tracking due → s.te.bench = none →
      s.te.tie = none →
      (c < info.cycleChainage + distance → after unmoved)
      ∧ (info.cycleChainage + distance ≤ c → rest = [] → op.standing = true → after fun t =>
        t.oq = { s.oq with ops := [{ op with
          state := .executing { info with cycles := countOne info.cycles, cycleChainage := c } }] }
        ∧ t.gl = s.gl ∧ t.te = s.te ∧ t.clp = s.clp ∧ t.pat = s.pat)
      ∧ (info.cycleChainage + distance ≤ c → rest = [] → op.standing = false → 0 < info.cycles → after fun t =>
        queueDone t ∧ t.te = s.te ∧ t.pat = s.pat
        ∧ t.clp = fireIn (.opDone op.tag .hold .done .distance info.cycles 0) s.clock c s.clp)
      ∧ (∀ waiting next, info.cycleChainage + distance ≤ c → rest = [waiting] → waiting.params = .dwell next →
        waiting.state = .waiting → 0 < info.cycles → after fun t =>
        t.oq.ops = [{ waiting with state := .executing {
          startTime := s.clock, cycles := 1, cycleChainage := 0, cycleTime := s.clock } }]
        ∧ t.oq.dwellTimer = some (s.clock + BitVec.ofNat 32 next) ∧ t.gl = { v := 0, loop := none }
        ∧ t.clp = fireIn (.opDone op.tag .hold .done .distance info.cycles 1) s.clock c s.clp))

/-- SET_CHAINAGE sets the accumulator to the given whole millimetres, clears the limit latch and moves the anchor,
clamping a value above 999,999 (R30, R31); what is reckoned from the chainage starts afresh there: a coast or search
start, a COLLECTING tie, the cycle start of an executing HOLD (R106, R108, R129, R148). It is refused with STATE while
a DIG is held or a shadow run is on (R31). -/
def Obligations.SetChainage : Prop :=
  ∀ (tag value : Nat) (s : State),
    (atRest s → s.sm = none → value ≤ 999999 →
      exec (.setChainage tag value) s = .next (answer .setChainage tag .ok .none { s with
        cc := { s.cc with acc := 1000 * value, limitLatch := false, anchor := value } }))
    ∧ (atRest s → s.sm = none → 999999 < value →
      exec (.setChainage tag value) s = .next (answer .setChainage tag .clamped .none { s with
        cc := { s.cc with acc := 999999000, limitLatch := false, anchor := 999999 } }))
    ∧ (holdsDig s = true ∨ s.sm ≠ none →
      exec (.setChainage tag value) s = .next (refuse .setChainage tag .state s))
    ∧ (holdsDig s = false → s.sm = none → value ≤ 999999 →
      ∃ t, exec (.setChainage tag value) s = .next t
        ∧ t.cc = { s.cc with acc := 1000 * value, limitLatch := false, anchor := value }
        ∧ (∀ l start since, s.gl.loop = some l → l.state = .coasting start since →
            t.gl.loop = some { l with state := .coasting value since })
        ∧ (∀ l dir level start due flips since, s.gl.loop = some l →
            l.state = .searching dir level start due flips since →
            t.gl.loop = some { l with state := .searching dir level value due flips since })
        ∧ (∀ r, s.te.tie = some r → r.result = none →
            t.te.tie = some { r with startChainage := value, activeSlot := none, candidateSlot := none, pairs := [],
                                     cRef := none })
        ∧ (∀ r, s.te.tie = some r → r.result ≠ none → t.te.tie = some r)
        ∧ (∀ op rest info target distance, s.oq.ops = op :: rest → op.state = .executing info →
            op.params = .hold target distance →
            t.oq.ops.head? = some { op with state := .executing { info with cycleChainage := value } })
        ∧ t.gl.v = s.gl.v ∧ t.pat = s.pat ∧ t.ss = s.ss ∧ t.lt = s.lt ∧ t.os = s.os ∧ t.sq = s.sq ∧ t.mlr = s.mlr)

/-- The stillness timer expires: the detector becomes STILL and a waiting bench goes to SAMPLING (R28, R29, R120); an
ENDED DIG alone in the queue completes DONE with reason RUN_END, a STOPPING one ABORTED with reason SOFT_ABORT, as the
OP_DONE each fires says (R65, R66, R155, R156). -/
def Obligations.StillnessTimerExpiry : Prop :=
  ∀ (due : Time) (s : State), s.cc.stillTimer = some due →
    (runPhase s ≠ some .ended → runPhase s ≠ some .stopping →
      exec .stillnessTimerExpiry s = .next (formPermit { s with
        cc := { s.cc with still := .still, stillTimer := none }
        te := { s.te with bench := s.te.bench.map fun b => { b with sampling := true } } }))
    ∧ (∀ op outcome reason, (runPhase s = some .ended ∧ outcome = .done ∧ reason = .runEnd)
        ∨ (runPhase s = some .stopping ∧ outcome = .aborted ∧ reason = .softAbort) →
      s.oq.ops = [op] → kindOf op.params = .dig →
      ∃ t, exec .stillnessTimerExpiry s = .next t ∧ queueDone t ∧ t.cc.still = .still ∧ t.cc.stillTimer = none
        ∧ t.clp = fireIn (.opDone op.tag .dig outcome reason 0 0) s.clock (chainage s) s.clp
        ∧ t.cc.acc = s.cc.acc ∧ t.pat = s.pat ∧ t.te.tie = s.te.tie ∧ portKept s t)

/-! ## Run sheets -/

/-- OPEN_SHEET taken: the sheet holds the given header and no segment, and a sheet in use or OPEN refuses (R38).
APPEND_SEGMENT to an OPEN sheet appends a segment whose values R40 allows, and replies with its index, the new count and
the new total length (R39). SEAL_SHEET makes an OPEN sheet that holds a segment SEALED, leaves a SEALED one as it was, and
refuses an EMPTY sheet or one with no segments (R41). READ_SHEET changes nothing but the reply: index 255 gives the header
and the summary, and the index of a segment that segment with its offset, its rise before and its rise; an index past the
last segment and a number outside 1 to 6 are refused with BAD_VALUE (R36, R43, R44). -/
def Obligations.SheetRequests : Prop :=
  (∀ (tag : Nat) (f : HeaderFields) (h : Header) (n : Fin 6) (s : State), headerOf f = some h →
      ((sheetAt s n).inUse = 0 → sheetState (sheetAt s n).body ≠ .opened →
        exec (.openSheet tag (n.val + 1) f) s = .next (answer .openSheet tag .ok .none { s with
          ss := s.ss.set n.val { body := .opened h [], inUse := 0 } }))
      ∧ (0 < (sheetAt s n).inUse → exec (.openSheet tag (n.val + 1) f) s = .next (refuse .openSheet tag .busy s))
      ∧ ((sheetAt s n).inUse = 0 → sheetState (sheetAt s n).body = .opened →
        exec (.openSheet tag (n.val + 1) f) s = .next (refuse .openSheet tag .state s)))
  ∧ (∀ (tag length grade marker : Nat) (m : Marker) (stop : Bool) (n : Fin 6) (h : Header) (l : List Segment) (s : State),
      (sheetAt s n).body = .opened h l → markerOf marker = some m →
      (l.length < 20 → 1000 ≤ length → length ≤ 500000 → h.minGrade ≤ grade → grade ≤ 5000 →
        (l.map (·.length)).sum + length ≤ 999999 →
        exec (.appendSegment tag (n.val + 1) length grade marker stop.toNat) s = .next (answer .appendSegment tag .ok
          (.appended l.length (l.length + 1) ((l.map (·.length)).sum + length)) { s with
            ss := s.ss.set n.val { sheetAt s n with
              body := .opened h (l ++ [{ length := length, grade := grade, marker := m, stopAtEnd := stop }]) } }))
      ∧ (20 ≤ l.length → exec (.appendSegment tag (n.val + 1) length grade marker stop.toNat) s
          = .next (refuse .appendSegment tag .full s))
      ∧ (l.length < 20 → (length < 1000 ∨ 500000 < length ∨ grade < h.minGrade ∨ 5000 < grade
            ∨ 999999 < (l.map (·.length)).sum + length) →
          exec (.appendSegment tag (n.val + 1) length grade marker stop.toNat) s
            = .next (refuse .appendSegment tag .badValue s)))
  ∧ (∀ (tag : Nat) (n : Fin 6) (h : Header) (l : List Segment) (s : State),
      ((sheetAt s n).body = .opened h l → l ≠ [] →
        exec (.sealSheet tag (n.val + 1)) s = .next (answer .sealSheet tag .ok (sealSummary l) { s with
          ss := s.ss.set n.val { sheetAt s n with body := .sealed h l } }))
      ∧ ((sheetAt s n).body = .sealed h l →
        exec (.sealSheet tag (n.val + 1)) s = .next (answer .sealSheet tag .ok (sealSummary l) s))
      ∧ ((sheetAt s n).body = .empty ∨ (sheetAt s n).body = .opened h [] →
        exec (.sealSheet tag (n.val + 1)) s = .next (refuse .sealSheet tag .state s)))
  ∧ (∀ (tag : Nat) (n : Fin 6) (s : State),
      exec (.readSheet tag (n.val + 1) 255) s = .next (answer .readSheet tag .ok
        (.sheet (sheetState (sheetAt s n).body) (headerIn (sheetAt s n).body)
          (segmentsOf (sheetAt s n).body).length ((segmentsOf (sheetAt s n).body).map (·.length)).sum
          ((segmentsOf (sheetAt s n).body).map fun g => riseOf g.grade g.length).sum (sheetAt s n).inUse) s)
      ∧ (∀ k g, (segmentsOf (sheetAt s n).body)[k]? = some g → k ≠ 255 →
        exec (.readSheet tag (n.val + 1) k) s = .next (answer .readSheet tag .ok
          (.segment g (((segmentsOf (sheetAt s n).body).take k).map (·.length)).sum
            (((segmentsOf (sheetAt s n).body).take k).map fun g => riseOf g.grade g.length).sum
            (riseOf g.grade g.length)) s))
      ∧ (∀ k, (segmentsOf (sheetAt s n).body).length ≤ k → k ≠ 255 →
        exec (.readSheet tag (n.val + 1) k) s = .next (refuse .readSheet tag .badValue s))
      ∧ (∀ m k, m = 0 ∨ 6 < m → exec (.readSheet tag m k) s = .next (refuse .readSheet tag .badValue s)))

/-- ERASE_SHEET returns a sheet that no DIG holds to EMPTY, and refuses with BUSY a sheet in use and with BAD_VALUE
a number outside 1 to 6 (R42). -/
def Obligations.EraseSheet : Prop :=
  ∀ (tag : Nat) (n : Fin 6) (s : State),
    ((sheetAt s n).inUse = 0 → exec (.eraseSheet tag (n.val + 1)) s = .next (answer .eraseSheet tag .ok .none { s with
      ss := s.ss.set n.val { body := .empty, inUse := 0 } }))
    ∧ (0 < (sheetAt s n).inUse → exec (.eraseSheet tag (n.val + 1)) s = .next (refuse .eraseSheet tag .busy s))
    ∧ (∀ k, k = 0 ∨ 6 < k → exec (.eraseSheet tag k) s = .next (refuse .eraseSheet tag .badValue s))


/-! ## The grade loop -/

/-- The step of a valid IN_WINDOW strike of the ACTIVE entry that finds the loop ACQUIRING or TRACKING and has the
target T: TRACKING with the beam-age timer restarted (R101, R102), the error, window, decision, magnitude, slew, the
holds and limits, and the level handed on (R83 to R93, R96). The tilt is one that needs no clamp
(TiltClampAndLatching states the clamp), and a PLUNGE is not yet at its third HOLD (OperationsComplete states that). Planes,
sheets, the run, the tie engine, the chainage and the queue's operations are kept. That in a shadow run the limit, the
final V and REACH go by the simulated stroke as last handed on, and not as the model's latest step left it, is the model's
own reading (log 14). -/
def Obligations.TrackingStrikeIsComputed : Prop :=
  ∀ (q : QStrike) (b T : Int) (line : Option LinePart) (l : LoopCtx) (due : Time) (s : State),
    loopHas q l s → q.beam = .inWindow b → l.state = .tracking due ∨ l.state = .acquiring → tiltUnclamped s →
    l.target ≠ .unlatched → strikeTarget q l s = some (T, line) → (l.kind = .plunge → l.holdCount < 2) →
    let k := s.clp.consts
    let window := pushError l.window (measuredDepth b s - T)
    let ef := filteredError window
    let d := decide3 l.shallow l.deep ef
    let wanted := wantedLevel k l.shallow l.deep l.settle d ef
    let slewed := slewLevel k.slew s.gl.v wanted
    let hold := behindHighWater l.kind s.cc.chw q.chainage
    let held := if hold then 0 else slewed
    let limit := limitOf k (strokeSeen s) held
    let final := if limit = .none then held else 0
    ∃ t, exec .gradeLoopStrike s = .next t
      ∧ t.gl.v = final
      ∧ t.gl.loop = some { l with
          state := .tracking (s.clock + BitVec.ofNat 32 k.lossTime), window := window, settle := l.settle - 1,
          holdCount := nextHoldCount l.kind d l.holdCount
          record := some {
            chainage := q.chainage, tilt := tiltNow s, drop := tiltDrop k.mastLength (tiltNow s)
            depth := measuredDepth b s, line := line
            errors := some { target := T, error := measuredDepth b s - T, filtered := ef, count := window.length }
            decision := d, wanted := wanted, slewed := slewed, final := final, settle := l.settle - 1
            reverseHold := hold, limit := limit } }
      ∧ t.os.raiseDuty = (if dutiesHeld s then 0 else raiseDutyFor k final)
      ∧ t.os.lowerDuty = (if dutiesHeld s then 0 else lowerDutyFor k final)
      ∧ t.oq.pause.beam = (if l.state = .acquiring then false else s.oq.pause.beam)
      ∧ t.oq.pause.reach = (if limit = .bottom then true else if d = .lower then s.oq.pause.reach else false)
      ∧ (limit = .bottom → s.oq.pause.reach = false → t.clp.flags.getLsbD 12 = true)
      ∧ t.sm = s.sm.map (fun m => { m with drive := final })
      ∧ t = { s with
          sq := { s.sq with toLoop := none }, gl := t.gl, os := t.os, sm := t.sm, clp := t.clp
          oq := { s.oq with pause := t.oq.pause } }
      ∧ portKept s t

/-- A tilt sample that quantises beyond ±120 is clamped, and each computation of a measured depth with it fires TILT_CLAMP
with the sample, the tilt as clamped and the user: the Grade Loop, the bench and the tie engine (R74). The first strike
that reaches the target stage of an unlatched HOLD latches its measured depth, the window cleared first, so that its own
error is 0, it decides HOLD and V becomes 0 (R80, R85). -/
def Obligations.TiltClampAndLatching : Prop :=
  ∀ (q : QStrike) (b : Int) (s : State), q.beam = .inWindow b →
    let clamped : Int := if 0 < s.os.tilt then 120 else -120
    let fired : TiltUser → Clp := fun user => fireIn (.tiltClamp s.os.tilt clamped user) s.clock (chainage s) s.clp
    let k := s.clp.consts
    (∀ l due, s.sm = none → 120 < (roundDiv s.os.tilt 10).natAbs → loopHas q l s → l.kind ≠ .plunge →
      l.state = .tracking due → l.target ≠ .unlatched → k.strokeBottom < s.os.stroke →
      ∃ t, exec .gradeLoopStrike s = .next t ∧ t.clp = fired .gradeLoop
        ∧ (t.gl.loop.bind (·.record)).map (·.tilt) = some clamped)
    ∧ (∀ c, s.sm = none → 120 < (roundDiv s.os.tilt 10).natAbs → s.sq.toBench = some q →
      activeEntry s = some q.entry → s.te.bench = some c → c.sampling = true →
      movedFrom (c.reference.getD q.chainage) q.chainage = false → c.samples.length + 1 < k.benchStrikes →
      ∃ t, exec .benchStrike s = .next t ∧ t.clp = fired .bench)
    ∧ (∀ r, s.sm = none → 120 < (roundDiv s.os.tilt 10).natAbs → s.sq.toTie = some (.candidate, q) →
      (entryAt s q.entry).role = .candidate → s.te.tie = some r → r.result = none → r.activeSlot = none →
      ∃ t, exec .tieStrike s = .next t ∧ t.clp = fired .tie)
    ∧ (∀ l due, loopHas q l s → l.kind = .hold → l.state = .tracking due → l.target = .unlatched →
      let depth := measuredDepth b s
      ∃ t, exec .gradeLoopStrike s = .next t ∧ t.gl = { v := 0, loop := some { l with
          state := .tracking (s.clock + BitVec.ofNat 32 k.lossTime), target := .latched depth, window := [0]
          settle := k.settleCount - 1, holdCount := 0, record := some {
            chainage := q.chainage, tilt := tiltNow s, drop := tiltDrop k.mastLength (tiltNow s), depth := depth
            line := none, errors := some { target := depth, error := 0, filtered := 0, count := 1 }
            decision := .hold, wanted := 0, slewed := 0, final := 0, settle := k.settleCount - 1
            reverseHold := false, limit := .none } } }
        ∧ t.os.raiseDuty = 0 ∧ t.os.lowerDuty = 0 ∧ t.oq = { s.oq with pause := { s.oq.pause with reach := false } }
        ∧ t.pat = s.pat ∧ t.te = s.te ∧ t.cc = s.cc ∧ t.lt = s.lt ∧ portKept s t)

/-- The target of a strike in a DIG is the height of the plane above the design invert, both at the target chainage:
the strike's own held at the segment end while RUNNING, the frozen one while held or ended; there is none while STOPPING a
run that was never benched, nor while the entry holds no tie (R54, R55, R77, R78). A strike with no target sets V to 0,
tracks and writes a record without a decision (R79); that the wanted and the slewed level of that record are 0 is the
model's choice (log 37) and not stated. A strike for a loop that is gone, or of an entry no longer ACTIVE, is finished
without effect (R72, R73); so is a SPLIT strike. -/
def Obligations.TargetOfAStrike : Prop :=
  (∀ (q : QStrike) (l : LoopCtx) (r : RunCtx) (tie : Tie) (s : State),
    l.target = .absent → s.lt = some r → (entryAt s q.entry).tie = some tie →
    (∀ ct : Nat, (r.phase = .running ∧ ct = min q.chainage (r.cur.cs + r.cur.length))
        ∨ ((r.phase = .segmentHold ∨ r.phase = .ended ∨ (r.phase = .stopping ∧ r.unbenched = false))
            ∧ r.frozen = some ct) →
      (strikeTarget q l s).map (·.1) = some (
        tie.pb + roundDiv ((entryAt s q.entry).slope * ((ct : Int) - (tie.cb : Int))) 100000
          - (r.cur.invert + roundDiv ((r.cur.grade : Int) * ((ct : Int) - (r.cur.cs : Int))) 100000)))
    ∧ (r.phase = .stopping → r.unbenched = true → strikeTarget q l s = none))
  ∧ (∀ (q : QStrike) (l : LoopCtx) (s : State), l.target = .absent → (entryAt s q.entry).tie = none →
    strikeTarget q l s = none)
  ∧ ∀ (q : QStrike) (s : State), s.sq.toLoop = some q →
    (∀ l b due, s.gl.loop = some l → activeEntry s = some q.entry → q.beam = .inWindow b →
      l.state = .tracking due → tiltUnclamped s → l.target ≠ .unlatched → strikeTarget q l s = none →
      ∃ t, exec .gradeLoopStrike s = .next t ∧ t.gl.v = 0 ∧ t.os.raiseDuty = 0 ∧ t.os.lowerDuty = 0
        ∧ t.gl.loop.map (·.state) = some (.tracking (s.clock + BitVec.ofNat 32 s.clp.consts.lossTime))
        ∧ t.gl.loop.map (·.window) = some l.window ∧ t.gl.loop.map (·.settle) = some l.settle
        ∧ (t.gl.loop.bind (·.record)).map (·.decision) = some .none
        ∧ t = { s with sq := { s.sq with toLoop := none }, gl := t.gl, os := t.os, sm := t.sm })
    ∧ (s.gl.loop = none ∨ activeEntry s ≠ some q.entry ∨ q.beam = .split →
      exec .gradeLoopStrike s = .next (formPermit { s with sq := { s.sq with toLoop := none } }))

/-- A strike ABOVE or BELOW the window (R101, R103 to R107): from ACQUIRING, TRACKING and COASTING it enters the search
in its direction at the full level, from the chainage and time as they stand, and BEAM_SEARCH fires; in a search of its
own direction it changes nothing; in the other search it turns the search at half the level, and at the third flip the
loop is LOST with V 0 and BEAM set. -/
def Obligations.StrikeOutsideTheWindow : Prop :=
  ∀ (q : QStrike) (l : LoopCtx) (dir : Direction) (s : State), loopHas q l s → pointsTo q.beam dir →
    let k := s.clp.consts
    let full := max k.searchDrive k.driveMin
    let due := s.clock + BitVec.ofNat 32 k.searchTime
    (l.state = .acquiring ∨ (∃ due, l.state = .tracking due) ∨ (∃ start since, l.state = .coasting start since) →
      ∃ t, exec .gradeLoopStrike s = .next t
        ∧ t.gl.loop = some { l with state := .searching dir full (chainage s) due 0 s.clock }
        ∧ t.gl.v = (if dir = .up then (full : Int) else -(full : Int)) ∧ t.clp.flags.getLsbD 5 = true
        ∧ t = { s with sq := { s.sq with toLoop := none }, gl := t.gl, os := t.os, sm := t.sm, clp := t.clp }
        ∧ portKept s t)
    ∧ (∀ level start due flips since, l.state = .searching dir level start due flips since →
      exec .gradeLoopStrike s = .next (formPermit { s with sq := { s.sq with toLoop := none } }))
    ∧ (∀ level start due flips since, l.state = .searching (reversed dir) level start due flips since → flips < 2 →
      ∃ t, exec .gradeLoopStrike s = .next t
        ∧ t.gl.loop = some { l with state := .searching dir (max (level / 2) k.driveMin) start due (flips + 1) since }
        ∧ t.gl.v = (if dir = .up then 1 else -1) * ((max (level / 2) k.driveMin : Nat) : Int)
        ∧ t = { s with sq := { s.sq with toLoop := none }, gl := t.gl, os := t.os, sm := t.sm })
    ∧ (∀ level start due since, l.state = .searching (reversed dir) level start due 2 since →
      ∃ t, exec .gradeLoopStrike s = .next t
        ∧ t.gl.loop = some { l with state := .lost none } ∧ t.gl.v = 0 ∧ t.oq.pause.beam = true
        ∧ t.oq.pause.resumeWait = false ∧ t.os.permit = false ∧ t.clp.flags.getLsbD 6 = true
        ∧ t.pat = s.pat ∧ t.cc = s.cc ∧ t.te = s.te ∧ t.lt = s.lt ∧ t.oq.ops = s.oq.ops ∧ portKept s t)

/-- In LOST a strike ABOVE or BELOW starts the LOST drive at the full level, restarts its timer when it already drives
that way, and reverses it at half the level otherwise, V going with it (R112). The timers of the loop: the beam-age expiry
enters COASTING from the chainage and time as they stand with V 0 and no event (R104); a search that runs out of time is
LOST with BEAM set and BEAM_LOST (R108, R111); the LOST drive ends with V 0 (R112). -/
def Obligations.LostDriveAndLoopTimers : Prop :=
  (∀ (q : QStrike) (l : LoopCtx) (dir : Direction) (s : State), loopHas q l s → pointsTo q.beam dir →
      let k := s.clp.consts
      let full := max k.searchDrive k.driveMin
      let due := s.clock + BitVec.ofNat 32 k.searchTime
      (l.state = .lost none → ∃ t, exec .gradeLoopStrike s = .next t
        ∧ t.gl = { v := if dir = .up then (full : Int) else -(full : Int),
                   loop := some { l with state := .lost (some { dir := dir, level := full, due := due }) } }
        ∧ t = { s with sq := { s.sq with toLoop := none }, gl := t.gl, os := t.os, sm := t.sm })
      ∧ (∀ d, l.state = .lost (some d) → d.dir = dir →
        exec .gradeLoopStrike s = .next (formPermit { s with
          sq := { s.sq with toLoop := none }
          gl := { s.gl with loop := some { l with state := .lost (some { d with due := due }) } } }))
      ∧ (∀ d, l.state = .lost (some d) → d.dir = reversed dir → ∃ t, exec .gradeLoopStrike s = .next t
        ∧ t.gl.loop = some { l with
            state := .lost (some { dir := dir, level := max (d.level / 2) k.driveMin, due := due }) }
        ∧ t.gl.v = (if dir = .up then 1 else -1) * ((max (d.level / 2) k.driveMin : Nat) : Int)
        ∧ t = { s with sq := { s.sq with toLoop := none }, gl := t.gl, os := t.os, sm := t.sm }))
  ∧ ∀ (l : LoopCtx) (s : State), s.gl.loop = some l →
      (∀ due, l.state = .tracking due → ∃ t, exec .beamAgeTimerExpiry s = .next t
        ∧ t.gl = { v := 0, loop := some { l with state := .coasting (chainage s) s.clock } }
        ∧ t.os.raiseDuty = 0 ∧ t.os.lowerDuty = 0
        ∧ t = { s with gl := t.gl, os := t.os, sm := t.sm })
      ∧ (∀ dir level start due flips since, l.state = .searching dir level start due flips since →
        ∃ t, exec .searchTimerExpiry s = .next t ∧ t.gl = { v := 0, loop := some { l with state := .lost none } }
          ∧ t.oq.pause = { s.oq.pause with beam := true, resumeWait := false } ∧ t.os.permit = false
          ∧ t.os.raiseDuty = 0 ∧ t.os.lowerDuty = 0 ∧ t.clp.flags.getLsbD 6 = true
          ∧ t = { s with gl := t.gl, os := t.os, sm := t.sm, clp := t.clp, oq := { s.oq with pause := t.oq.pause } }
          ∧ portKept s t)
      ∧ (∀ d, l.state = .lost (some d) → ∃ t, exec .lostDriveTimerExpiry s = .next t
        ∧ t.gl = { v := 0, loop := some { l with state := .lost none } } ∧ t.os.raiseDuty = 0 ∧ t.os.lowerDuty = 0
        ∧ t = { s with gl := t.gl, os := t.os, sm := t.sm })

/-- A valid IN_WINDOW strike regains the beam from COASTING, a search (R110) and LOST (R113): TRACKING with the beam-age
timer started, BEAM removed, the window cleared before this strike's own error, BEAM_REGAINED from a search and from
LOST, and RESUME_WAIT set from LOST. -/
def Obligations.BeamRegained : Prop :=
  ∀ (q : QStrike) (b : Int) (l : LoopCtx) (s : State), loopHas q l s → q.beam = .inWindow b →
    (∃ start since, l.state = .coasting start since)
      ∨ (∃ dir level start due flips since, l.state = .searching dir level start due flips since)
      ∨ (∃ drive, l.state = .lost drive) →
    ∃ t, exec .gradeLoopStrike s = .next t
      ∧ t.gl.loop.map (·.state) = some (.tracking (s.clock + BitVec.ofNat 32 s.clp.consts.lossTime))
      ∧ (∀ x, t.gl.loop = some x → x.window.length ≤ 1) ∧ t.oq.pause.beam = false
      ∧ ((∃ drive, l.state = .lost drive) → t.oq.pause.resumeWait = true ∧ t.os.permit = false)
      ∧ ((∀ drive, l.state ≠ .lost drive) → t.oq.pause.resumeWait = s.oq.pause.resumeWait)
      ∧ ((∀ start since, l.state ≠ .coasting start since) → t.clp.flags.getLsbD 7 = true)
      ∧ t.sq.toLoop = none ∧ t.pat = s.pat ∧ t.cc = s.cc ∧ t.te = s.te ∧ t.lt = s.lt ∧ t.ss = s.ss
      ∧ t.oq.ops = s.oq.ops ∧ portKept s t

/-- The measured depth is MAST_LENGTH less the tilt drop plus the offset, the tilt quantised, clamped to ±120 and 0 in a
shadow run (R74 to R76). The error window keeps the four most recent errors and the filtered error is their rounded mean
(R83, R84). It decides by the bands (R86), and a PLUNGE alone counts the decisions HOLD running (R87). The magnitude adds
the gain's share of the excess to DRIVE_MIN, by 10, or by 20 while the settle count is above 0, and is held at DRIVE_MAX
(R88); the slew limiter goes to 0 on a change of sign, follows a wanted level no greater than the present one at once, and
grows by no more than SLEW otherwise (R90), so that it never passes the wanted level nor points the other way. The
reverse-travel hold acts on a DIG's strike stamped more than 50 mm behind chw (R91), and the limits cut a drive down at
STROKE_BOTTOM and up at STROKE_TOP (R92, R93). -/
def Obligations.DecisionAndDrive : Prop :=
  (∀ (b : Int) (s : State),
    let L : Int := s.clp.consts.mastLength
    let t := max (-120) (min 120 (roundDiv (if s.sm.isSome then 0 else s.os.tilt) 10))
    tiltNow s = t ∧ (tiltDrop s.clp.consts.mastLength t : Int) = roundDiv (L * (t * t)) 656560
      ∧ measuredDepth b s = L - roundDiv (L * (t * t)) 656560 + b)
  ∧ (∀ (window : List Int) (e : Int),
    (window.length < 4 → pushError window e = window ++ [e])
    ∧ (∀ oldest rest, window = oldest :: rest → rest.length = 3 → pushError window e = rest ++ [e])
    ∧ filteredError window = roundDiv window.sum window.length)
  ∧ (∀ (shallow deep : Nat) (ef : Int),
    (decide3 shallow deep ef = .lower ↔ ef < -(shallow : Int))
    ∧ (decide3 shallow deep ef = .raise ↔ (deep : Int) < ef)
    ∧ (decide3 shallow deep ef = .hold ↔ -(shallow : Int) ≤ ef ∧ ef ≤ deep))
  ∧ (∀ (k : Constants) (shallow deep settle : Nat) (ef : Int),
    ((deep : Int) < ef → wantedLevel k shallow deep settle .raise ef
        = min (k.driveMax : Int) (k.driveMin + k.gain * (ef - deep) / (if settle = 0 then 10 else 20)))
    ∧ (ef < -(shallow : Int) → wantedLevel k shallow deep settle .lower ef
        = -min (k.driveMax : Int) (k.driveMin + k.gain * (-ef - shallow) / (if settle = 0 then 10 else 20)))
    ∧ wantedLevel k shallow deep settle .hold ef = 0)
  ∧ (∀ (slew : Nat) (v wanted : Int),
    (wanted * v < 0 → slewLevel slew v wanted = 0)
    ∧ (0 ≤ wanted * v → wanted.natAbs ≤ v.natAbs → slewLevel slew v wanted = wanted)
    ∧ (0 ≤ wanted * v → v.natAbs + slew < wanted.natAbs →
        slewLevel slew v wanted = wanted.sign * ((v.natAbs + slew : Nat) : Int))
    ∧ (0 ≤ wanted * v → v.natAbs < wanted.natAbs → wanted.natAbs ≤ v.natAbs + slew →
        slewLevel slew v wanted = wanted)
    ∧ (slewLevel slew v wanted).natAbs ≤ wanted.natAbs ∧ 0 ≤ slewLevel slew v wanted * wanted)
  ∧ (∀ (d : Decision) (n : Nat), nextHoldCount .plunge d n = (if d = .hold then n + 1 else 0)
    ∧ nextHoldCount .dig d n = n ∧ nextHoldCount .hold d n = n)
  ∧ (∀ (kind : LoopKind) (chw : Option Nat) (c : Nat),
    behindHighWater kind chw c = true ↔ kind = .dig ∧ ∃ high, chw = some high ∧ c + 50 < high)
  ∧ (∀ (k : Constants) (stroke : Nat) (v : Int),
    (limitOf k stroke v = .bottom ↔ stroke ≤ k.strokeBottom ∧ v < 0)
    ∧ (limitOf k stroke v = .top ↔ k.strokeTop ≤ stroke ∧ 0 < v))

/-! ## Benches and ties -/

/-- A bench strike of the ACTIVE entry: in SAMPLING its measured depth is appended, the first one fixing the reference
chainage (R121); one stamped more than 20 mm from the reference restarts the collection for movement with one
BENCH_RESTART (R122); one that fills the list beyond TIE_TOLERANCE restarts it for spread, still SAMPLING, with one
BENCH_RESTART, and one that fills it within TIE_TOLERANCE ties the entry at c0 with the rounded mean, BENCH_DONE fires,
and the run is RUNNING without the reason BENCH (R123). Before SAMPLING it changes nothing. -/
def Obligations.BenchStrike : Prop :=
  ∀ (q : QStrike) (b : Int) (c : Bench) (s : State),
    s.sq.toBench = some q → activeEntry s = some q.entry → q.beam = .inWindow b → s.te.bench = some c →
    tiltUnclamped s →
    let s0 : State := { s with sq := { s.sq with toBench := none } }
    let depths := c.samples ++ [measuredDepth b s]
    (c.sampling = false → exec .benchStrike s = .next (formPermit s0))
    ∧ (c.sampling = true → movedFrom (c.reference.getD q.chainage) q.chainage = false →
        depths.length < s.clp.consts.benchStrikes →
      exec .benchStrike s = .next (formPermit { s0 with te := { s.te with bench := some { c with
        samples := depths, reference := some (c.reference.getD q.chainage) } } }))
    ∧ (∀ ref, c.sampling = true → c.reference = some ref → ref + 20 < q.chainage ∨ q.chainage + 20 < ref →
      exec .benchStrike s = .next (formPermit { s0 with
        te := { s.te with bench := some {
          sampling := decide (s.cc.still = .still), samples := [], reference := none,
          moveRestarts := countOne c.moveRestarts, spreadRestarts := c.spreadRestarts } }
        clp := { s.clp with
          counters := { s.clp.counters with benchRestart := countOne s.clp.counters.benchRestart } } }))
    ∧ (c.sampling = true → movedFrom (c.reference.getD q.chainage) q.chainage = false →
        s.clp.consts.benchStrikes ≤ depths.length → (s.clp.consts.tieTolerance : Int) < spreadOf depths →
      exec .benchStrike s = .next (formPermit { s0 with
        te := { s.te with bench := some { c with
          samples := [], reference := none, spreadRestarts := countOne c.spreadRestarts } }
        clp := { s.clp with
          counters := { s.clp.counters with benchRestart := countOne s.clp.counters.benchRestart } } }))
    ∧ (∀ r high, c.sampling = true → movedFrom (c.reference.getD q.chainage) q.chainage = false →
        s.clp.consts.benchStrikes ≤ depths.length → spreadOf depths ≤ s.clp.consts.tieTolerance → s.lt = some r →
        s.cc.chw = some high → high < r.cur.cs + r.cur.length →
      ∃ t, exec .benchStrike s = .next t
        ∧ entryAt t q.entry = { entryAt s q.entry with
            tie := some { pb := roundDiv depths.sum depths.length, cb := r.c0 } }
        ∧ (∀ j, j ≠ q.entry → entryAt t j = entryAt s j)
        ∧ t.lt = some { r with phase := .running } ∧ t.te = { s.te with bench := none }
        ∧ t.oq.pause = { s.oq.pause with bench := false } ∧ t.clp.flags.getLsbD 4 = true
        ∧ t.gl = s.gl ∧ t.cc = s.cc ∧ t.oq.ops = s.oq.ops ∧ t.ss = s.ss ∧ portKept s t)

/-- A strike in the Tie Engine while COLLECTING (R125 to R127): with the other plane's slot empty, or not agreeing, it takes
its own slot; agreeing with the strike the other slot holds, a strike of either plane makes a pair, whose estimate is
carried back to the reference chainage, and both slots are emptied. That the time between the two strikes is measured from
the one in the slot to the one offered, in every state, is the model's own reading (log 31). -/
def Obligations.TieStrike : Prop :=
  ∀ (q : QStrike) (b : Int) (r : TieRecord) (s : State), s.te.tie = some r → r.result = none →
    q.beam = .inWindow b → tiltUnclamped s →
    let x : SlotStrike := { depth := measuredDepth b s, chainage := q.chainage, time := q.time }
    let k := s.clp.consts
    (s.sq.toTie = some (.candidate, q) → (entryAt s q.entry).role = .candidate →
      (r.activeSlot = none ∨ (∃ a, r.activeSlot = some a ∧ ¬closeTo k x a)) →
      exec .tieStrike s = .next (formPermit { s with
        sq := { s.sq with toTie := none }, te := { s.te with tie := some { r with candidateSlot := some x } } }))
    ∧ (s.sq.toTie = some (.active, q) → (entryAt s q.entry).role = .active →
      (r.candidateSlot = none ∨ (∃ a, r.candidateSlot = some a ∧ ¬closeTo k x a)) →
      exec .tieStrike s = .next (formPermit { s with
        sq := { s.sq with toTie := none }, te := { s.te with tie := some { r with activeSlot := some x } } }))
    ∧ (∀ a c i tie, makesPair q r x a c s → activeEntry s = some i → (entryAt s i).tie = some tie →
      r.pairs.length + 1 < r.n →
      exec .tieStrike s = .next (formPermit { s with
        sq := { s.sq with toTie := none }, te := { s.te with tie := some (withPair r a c i tie s) } }))

/-- The pair that completes a collection (R128, R131): a spread beyond TIE_TOLERANCE ends the tie with reason SPREAD and
the spread, and a mean outside ±10,000 mm with reason RANGE, the candidate STANDBY without a tie and TIE_FAILED fired
(R134); otherwise TIE_DONE fires, and in CONFIRM mode the mean is left WAITING, while in AUTO mode the transfer follows at
once: the candidate is ACTIVE with that tie, the entry that was ACTIVE is RETIRED, TRANSFER fires and the outcome is
TRANSFERRED. That the time between the strikes of the pair is measured from the one in the slot to the one offered, in
every state, is the model's own reading (log 31). -/
def Obligations.TieCompletes : Prop :=
  ∀ (q : QStrike) (b : Int) (r : TieRecord) (a c : SlotStrike) (i : Fin 8) (tie : Tie) (s : State),
    s.te.tie = some r → r.result = none → q.beam = .inWindow b → tiltUnclamped s →
    makesPair q r { depth := measuredDepth b s, chainage := q.chainage, time := q.time } a c s →
    activeEntry s = some i → (entryAt s i).tie = some tie → r.pairs.length + 1 = r.n →
    let full := withPair r a c i tie s
    let estimates := full.pairs.map (·.estimate)
    let spread := spreadOf estimates
    let mean := roundDiv estimates.sum r.n
    let result : Tie := { pb := mean, cb := r.cRef.getD a.chainage }
    let done := fireIn (.tieDone r.candidate result spread r.n r.mode) s.clock (chainage s) s.clp
    let failed : TieReason → Option Int → Prop := fun why shown => ∃ t, exec .tieStrike s = .next t
      ∧ t.te = { s.te with tie := none, last := some (.failed r.candidate why r.n shown) }
      ∧ entryAt t r.candidate = { entryAt s r.candidate with role := .standby, tie := none }
      ∧ (∀ j, j ≠ r.candidate → entryAt t j = entryAt s j)
      ∧ t.clp = fireIn (.tieFailed r.candidate why r.n shown) s.clock (chainage s) s.clp
      ∧ t = { s with sq := { s.sq with toTie := none }, pat := t.pat, te := t.te, clp := t.clp, os := t.os }
    (s.clp.consts.tieTolerance < spread → failed .spread (some spread))
    ∧ (spread ≤ s.clp.consts.tieTolerance → mean < -10000 ∨ 10000 < mean → failed .range none)
    ∧ (spread ≤ s.clp.consts.tieTolerance → -10000 ≤ mean → mean ≤ 10000 → r.mode = .confirm →
      ∃ t, exec .tieStrike s = .next t
        ∧ t.te = { s.te with tie := some { full with timer := none, result := some { tie := result, spread := spread } } }
        ∧ t.clp = done
        ∧ t = { s with sq := { s.sq with toTie := none }, te := t.te, clp := t.clp, os := t.os })
    ∧ (spread ≤ s.clp.consts.tieTolerance → -10000 ≤ mean → mean ≤ 10000 → r.mode = .auto → i ≠ r.candidate →
      ∃ t, exec .tieStrike s = .next t
        ∧ t.te = { s.te with tie := none, last := some (.transferred r.candidate result spread) }
        ∧ entryAt t r.candidate = { entryAt s r.candidate with role := .active, tie := some result }
        ∧ entryAt t i = { entryAt s i with role := .retired }
        ∧ (∀ j, j ≠ r.candidate → j ≠ i → entryAt t j = entryAt s j)
        ∧ t.clp.flags.getLsbD 8 = true ∧ t.clp.flags.getLsbD 10 = true ∧ t.sq.toTie = none
        ∧ (s.gl.loop = none → t.gl = s.gl
            ∧ t.clp = fireIn (.transfer r.candidate i result none) s.clock (chainage s) done)
        ∧ t.cc = s.cc ∧ t.ss = s.ss ∧ t.lt = s.lt ∧ t.oq.ops = s.oq.ops ∧ portKept s t)

/-- TIE_START taken makes the named entry CANDIDATE without a tie and starts the collection from the chainage and time
as they stand (R124). TIE_CANCEL in COLLECTING or WAITING (R133) and the tie timer's expiry (R129) end it without
transfer: the candidate is STANDBY without a tie, TIE_FAILED fires, and the reason is the last outcome (R134). -/
def Obligations.TieStartAndItsEnds : Prop :=
  ∀ (tag : Nat) (s : State),
    (∀ (n : Nat) (mode : TieMode) (e i : Fin 8) (tie : Tie), 2 ≤ n → n ≤ 16 → s.te.tie = none →
      activeEntry s = some i → (entryAt s i).tie = some tie →
      ((entryAt s e).role = .standby ∨ (entryAt s e).role = .retired) → s.os.faulted = false →
      exec (.tieStart tag e.val n mode.ctorIdx) s = .next (answer .tieStart tag .ok .none { s with
        pat := s.pat.set e.val { entryAt s e with role := .candidate, tie := none }
        te := { s.te with tie := some {
          candidate := e, n := n, mode := mode, startChainage := chainage s, startTime := s.clock
          timer := some (s.clock + BitVec.ofNat 32 (1000 * s.clp.consts.tieTime)), activeSlot := none
          candidateSlot := none, cRef := none, pairs := [], result := none } } }))
    ∧ (s.te.tie = none → exec (.tieCancel tag) s = .next (refuse .tieCancel tag .state s))
    ∧ (∀ (r : TieRecord) (i : Instr) (why : TieReason), s.te.tie = some r →
      (i = .tieCancel tag ∧ why = .cancelled) ∨ (i = .tieTimerExpiry ∧ why = .time ∧ r.timer ≠ none) →
      ∃ t, exec i s = .next t ∧ t.te = { s.te with tie := none, last := some (.failed r.candidate why r.pairs.length none) }
        ∧ entryAt t r.candidate = { entryAt s r.candidate with role := .standby, tie := none }
        ∧ (∀ j, j ≠ r.candidate → entryAt t j = entryAt s j) ∧ t.clp.flags.getLsbD 9 = true
        ∧ t = { s with pat := t.pat, te := t.te, clp := t.clp })

/-- TIE_COMMIT of a waiting result (R130, R131): the candidate is ACTIVE with that tie, the entry that was ACTIVE is
RETIRED, TRANSFER fires and the tie ends TRANSFERRED; IDLE or COLLECTING it is refused with STATE. A loop has its window
cleared and a latched target unlatched (R82), and its state is set from the new plane's last strike (R115, R132): ACQUIRING
stays; LOST stays with its drive NONE and V 0; the others go to TRACKING, V cut to DRIVE_MAX and BEAM removed, for a valid
IN_WINDOW strike newer than LOSS_TIME, to SEARCH_UP or SEARCH_DOWN, BEAM_SEARCH firing, for one ABOVE or BELOW, and else to
COASTING with V 0. -/
def Obligations.TieCommitTransfersTheActiveRole : Prop :=
  (∀ (tag : Nat) (s : State), (∀ r, s.te.tie = some r → r.result = none) →
    exec (.tieCommit tag) s = .next (refuse .tieCommit tag .state s))
  ∧ ∀ (tag : Nat) (r : TieRecord) (res : TieResult) (old : Fin 8) (s : State), s.te.tie = some r → r.result = some res →
    activeEntry s = some old → old ≠ r.candidate →
    let k := s.clp.consts
    let full := max k.searchDrive k.driveMin
    let last := (entryAt s r.candidate).last
    let recent : Prop := ∃ b c time, last = some ⟨.inWindow b, c, time⟩ ∧ (s.clock - time).toNat < k.lossTime
    let search : Direction → Clp := fun dir => fireIn (.beamSearch dir .transfer full) s.clock (chainage s) s.clp
    ∃ t, exec (.tieCommit tag) s = .next t
      ∧ t.clp.reply = some { kind := 65, tag := tag, result := .ok, contents := .none }
      ∧ entryAt t r.candidate = { entryAt s r.candidate with role := .active, tie := some res.tie }
      ∧ entryAt t old = { entryAt s old with role := .retired }
      ∧ (∀ j, j ≠ r.candidate → j ≠ old → entryAt t j = entryAt s j)
      ∧ t.te = { s.te with tie := none, last := some (.transferred r.candidate res.tie res.spread) }
      ∧ t.clp.flags.getLsbD 10 = true ∧ t.cc = s.cc ∧ t.ss = s.ss ∧ t.lt = s.lt ∧ t.oq.ops = s.oq.ops
      ∧ (let fired : Option LoopName → Clp → Prop := fun name before =>
          t.clp = { fireIn (.transfer r.candidate old res.tie name) s.clock (chainage s) before with
            reply := t.clp.reply, held := t.clp.held, rx := t.clp.rx, inHand := t.clp.inHand }
         (s.gl.loop = none → t.gl = s.gl ∧ fired none s.clp)
         ∧ ∀ l, s.gl.loop = some l →
          let set : LoopState → Int → Prop := fun state v => t.gl = { v := v, loop := some { l with
            state := state, window := [], settle := k.settleCount, holdCount := 0
            target := match l.target with
              | .latched _ => .unlatched
              | target => target } }
          let live : Prop := l.state ≠ .acquiring ∧ ∀ drive, l.state ≠ .lost drive
          (l.state = .acquiring → set .acquiring s.gl.v ∧ fired (some .acquiring) s.clp ∧ t.oq.pause = s.oq.pause)
          ∧ (∀ drive, l.state = .lost drive → set (.lost none) 0 ∧ fired (some .lost) s.clp ∧ t.oq.pause = s.oq.pause)
          ∧ (∀ b c time, live → last = some ⟨.inWindow b, c, time⟩ → (s.clock - time).toNat < k.lossTime →
              set (.tracking (time + BitVec.ofNat 32 k.lossTime)) (max (-(k.driveMax : Int)) (min k.driveMax s.gl.v))
              ∧ fired (some .tracking) s.clp ∧ t.oq.pause = { s.oq.pause with beam := false })
          ∧ (live → last.map (·.beam) = some .above →
              set (.searching .up full (chainage s) (s.clock + BitVec.ofNat 32 k.searchTime) 0 s.clock) full
              ∧ fired (some .searchUp) (search .up) ∧ t.oq.pause = s.oq.pause)
          ∧ (live → last.map (·.beam) = some .below →
              set (.searching .down full (chainage s) (s.clock + BitVec.ofNat 32 k.searchTime) 0 s.clock) (-(full : Int))
              ∧ fired (some .searchDown) (search .down) ∧ t.oq.pause = s.oq.pause)
          ∧ (live → ¬recent → last.map (·.beam) ≠ some .above → last.map (·.beam) ≠ some .below →
              set (.coasting (chainage s) s.clock) 0 ∧ fired (some .coasting) s.clp ∧ t.oq.pause = s.oq.pause))

/-! ## The operation queue -/

/-- ENQUEUE behind other operations appends the operation as WAITING (R141, R142). On an empty queue the head starts: a
LIFT sets V to LIFT_DRIVE (R150), a DWELL starts its timer (R151), a PLUNGE and a HOLD create their loop in ACQUIRING
with the reason BEAM (R147, R148), and with no ACTIVE entry a PLUNGE and a HOLD end FAILED at once with reason NO_PLANE
(R155, R156). The cycle count OP_DONE gives for a HOLD that began no cycle is left free (log 9). The model's own readings in
it: the reply of an operation that leaves at once still gives position 0 and 1 held (log 36), and in a shadow run the
stroke a LIFT starts from is the simulated one as last handed on (log 14). -/
def Obligations.EnqueueWaitsOrStarts : Prop :=
  ∀ (tag opTag : Nat) (s : State),
    (∀ f standing op, s.oq.ops ≠ [] → s.oq.ops.length < 4 → s.oq.seq ≠ .faulted →
      operationOf opTag f standing = some op → unsealedDig op.params s = false →
      exec (.enqueue tag opTag f standing) s
        = .next (answer .enqueue tag .ok (.enqueued s.oq.ops.length (s.oq.ops.length + 1)) (formPermit
            (adjustInUse (· + 1) op.params { s with oq := { s.oq with ops := s.oq.ops ++ [op] } }))))
    ∧ (∀ f standing op, 4 ≤ s.oq.ops.length → s.oq.seq ≠ .faulted → operationOf opTag f standing = some op →
      exec (.enqueue tag opTag f standing) s = .next (refuse .enqueue tag .full s))
    ∧ (s.oq.ops = [] → s.oq.seq = .idle → strokeSeen s < s.clp.consts.strokeTop →
      ∃ t, exec (.enqueue tag opTag .lift 0) s = .next t ∧ t.oq = { s.oq with seq := .executing, ops := [{
          tag := opTag, params := .lift, standing := false
          state := .executing { startTime := s.clock, cycles := 0, cycleChainage := 0, cycleTime := 0 } }] }
        ∧ t.gl = { s.gl with v := s.clp.consts.liftDrive } ∧ t.os.permit = false
        ∧ t.os.raiseDuty = (if s.sm.isSome || s.os.faulted then 0 else raiseDutyFor s.clp.consts s.clp.consts.liftDrive)
        ∧ t.os.lowerDuty = 0 ∧ t.clp.reply = some ⟨48, tag, .ok, .enqueued 0 1⟩
        ∧ t = { s with oq := t.oq, gl := t.gl, os := t.os, sm := t.sm, clp := t.clp })
    ∧ (∀ time (st : Bool), s.oq.ops = [] → s.oq.seq = .idle → 100 ≤ time → time ≤ 60000 →
      exec (.enqueue tag opTag (.dwell time) st.toNat) s
        = .next (answer .enqueue tag .ok (.enqueued 0 1) (formPermit { s with oq := { s.oq with
            seq := .executing, dwellTimer := some (s.clock + BitVec.ofNat 32 time), ops := [{
              tag := opTag, params := .dwell time, standing := st
              state := .executing { startTime := s.clock, cycles := 1, cycleChainage := 0, cycleTime := s.clock } }] } })))
    ∧ (∀ depth i, s.oq.ops = [] → s.oq.seq = .idle → 300 ≤ depth → depth ≤ 4595 → activeEntry s = some i →
      exec (.enqueue tag opTag (.plunge depth) 0) s
        = .next (answer .enqueue tag .ok (.enqueued 0 1) (formPermit { s with
            gl := { s.gl with loop := some {
              kind := .plunge, state := .acquiring, shallow := s.clp.consts.holdShallowBand
              deep := s.clp.consts.holdDeepBand, window := [], settle := s.clp.consts.settleCount, holdCount := 0
              target := .given depth, record := none } }
            oq := { s.oq with seq := .executing, pause := { s.oq.pause with beam := true }, ops := [{
              tag := opTag, params := .plunge depth, standing := false
              state := .executing { startTime := s.clock, cycles := 0, cycleChainage := 0, cycleTime := 0 } }] } })))
    ∧ (∀ (target : Option Nat) distance (st : Bool) i, s.oq.ops = [] → s.oq.seq = .idle → 100 ≤ distance →
      distance ≤ 999999 → (∀ d, target = some d → 300 ≤ d ∧ d ≤ 4595) → activeEntry s = some i →
      exec (.enqueue tag opTag (.hold target.isSome.toNat (target.getD 0) distance) st.toNat) s
        = .next (answer .enqueue tag .ok (.enqueued 0 1) (formPermit { s with
            gl := { s.gl with loop := some {
              kind := .hold, state := .acquiring, shallow := s.clp.consts.holdShallowBand
              deep := s.clp.consts.holdDeepBand, window := [], settle := s.clp.consts.settleCount, holdCount := 0
              target := match target with
                | some d => .given d
                | none => .unlatched
              record := none } }
            oq := { s.oq with seq := .executing, pause := { s.oq.pause with beam := true }, ops := [{
              tag := opTag, params := .hold target distance, standing := st
              state := .executing { startTime := s.clock, cycles := 1, cycleChainage := chainage s
                                    cycleTime := 0 } }] } })))
    ∧ (∀ f standing op, s.oq.ops = [] → s.oq.seq = .idle → operationOf opTag f standing = some op →
      kindOf op.params = .plunge ∨ kindOf op.params = .hold → activeEntry s = none →
      ∃ t cycles, exec (.enqueue tag opTag f standing) s = .next t ∧ queueDone t ∧ t.oq.seq = .idle
        ∧ t.clp = { fireIn (.opDone opTag (kindOf op.params) .failed .noPlane cycles 0) s.clock (chainage s) s.clp with
            reply := some ⟨48, tag, .ok, .enqueued 0 1⟩, held := true, rx := .hunting, inHand := t.clp.inHand }
        ∧ (kindOf op.params = .plunge → cycles = 0)
        ∧ t.pat = s.pat ∧ t.ss = s.ss ∧ t.te.tie = s.te.tie ∧ t.cc.acc = s.cc.acc)

/-- A DIG with its own start chainage that becomes the head starts (R143 to R145): the chainage is set, its entry is the
one ACTIVE entry with the first tie of START_DEPTH, or without a tie and with a bench to make one (R119, R120), the
high-water chainage begins there (R27), and the run context (R51) and the loop context (R71) are created. The planes
before it are ones the part can hold (R18), of which at most one is ACTIVE. A DIG that fails a start check, of which the
first that fails gives the reason, ends FAILED and changes no chainage, role, tie or sheet (R144, R155, R156); that the
reply of its ENQUEUE still gives position 0 and 1 held is the model's own reading (log 36). -/
def Obligations.EnqueueStartsADig : Prop :=
  (∀ (tag opTag k0 c0 : Nat) (n : Fin 6) (e : Fin 8) (h : Header) (l : List Segment) (g : Segment) (s : State),
    s.oq.ops = [] → s.oq.seq = .idle → s.te.tie = none → k0 ≤ 19 → c0 ≤ 999999 →
    (sheetAt s n).body = .sealed h l → l[k0]? = some g → c0 + ((l.drop k0).map (·.length)).sum ≤ 999999 →
    (entryAt s e).role = .standby ∨ (entryAt s e).role = .active → PlaneLaw s →
    ∃ t, exec (.enqueue tag opTag (.dig (n.val + 1) k0 e.val 1 c0) 0) s = .next t
      ∧ t.clp.reply = some ⟨48, tag, .ok, .enqueued 0 1⟩
      ∧ t.oq.ops = [{ tag := opTag, params := .dig n k0 e (some c0), standing := false, state := .executing {
            startTime := s.clock, cycles := 0, cycleChainage := 0, cycleTime := 0 } }]
      ∧ t.oq.seq = .executing ∧ t.oq.pause.beam = true ∧ t.os.permit = false
      ∧ sheetAt t n = { body := .sealed h l, inUse := (sheetAt s n).inUse + 1 }
      ∧ (∀ m, m ≠ n → sheetAt t m = sheetAt s m)
      ∧ t.cc = { s.cc with acc := 1000 * c0, limitLatch := false, anchor := c0, chw := some c0 }
      ∧ activeEntry t = some e
      ∧ (∀ j, j ≠ e → (entryAt s j).role = .active → entryAt t j = { entryAt s j with role := .standby, tie := none })
      ∧ (∀ j, j ≠ e → (entryAt s j).role ≠ .active → entryAt t j = entryAt s j)
      ∧ t.gl.loop = some {
          kind := .dig, state := .acquiring, shallow := h.shallow, deep := h.deep, window := []
          settle := s.clp.consts.settleCount, holdCount := 0, target := .absent, record := none }
      ∧ t.lt = some {
          sheet := n, k0 := k0, c0 := c0, base := ((l.take k0).map fun x => riseOf x.grade x.length).sum
          cur := { index := k0, cs := c0, invert := 0, grade := g.grade, length := g.length, marker := g.marker
                   stopAtEnd := g.stopAtEnd }
          staged := if k0 + 1 < l.length then
              some { index := k0 + 1, cs := c0 + g.length, invert := (riseOf g.grade g.length : Int) } else none
          phase := if h.startDepth.isSome then .running else .benching
          frozen := none, unbenched := false, softAborted := false }
      ∧ (g.marker ≠ .none → t.clp.flags.getLsbD 2 = true)
      ∧ (∀ d, h.startDepth = some d →
          entryAt t e = { entryAt s e with role := .active, tie := some { pb := d, cb := c0 } } ∧ t.te.bench = s.te.bench)
      ∧ (h.startDepth = none →
          entryAt t e = { entryAt s e with role := .active, tie := none } ∧ t.oq.pause.bench = true
            ∧ t.te.bench = some { sampling := decide (s.cc.still = .still), samples := [], reference := none
                                  moveRestarts := 0, spreadRestarts := 0 }))
  ∧ ∀ (tag opTag k0 : Nat) (c0 : Option Nat) (n : Fin 6) (e : Fin 8) (h : Header) (l : List Segment) (why : OpReason)
      (s : State), s.oq.ops = [] → s.oq.seq = .idle → k0 ≤ 19 → (∀ c, c0 = some c → c ≤ 999999) →
    (sheetAt s n).body = .sealed h l →
    let role := (entryAt s e).role
    (why = .badSegment ∧ l.length ≤ k0)
      ∨ (why = .planeRole ∧ k0 < l.length ∧ role ≠ .standby ∧ role ≠ .active)
      ∨ (why = .tieBusy ∧ k0 < l.length ∧ role = .standby ∧ s.te.tie ≠ none)
      ∨ (why = .range ∧ k0 < l.length ∧ (role = .active ∨ (role = .standby ∧ s.te.tie = none))
          ∧ 999999 < c0.getD (s.cc.acc / 1000) + ((l.drop k0).map (·.length)).sum) →
    ∃ t, exec (.enqueue tag opTag (.dig (n.val + 1) k0 e.val c0.isSome.toNat (c0.getD 0)) 0) s = .next t
      ∧ queueDone t ∧ t.oq.seq = .idle
      ∧ t.clp = { fireIn (.opDone opTag .dig .failed why 0 0) s.clock (chainage s) s.clp with
          reply := some ⟨48, tag, .ok, .enqueued 0 1⟩, held := true, rx := .hunting, inHand := t.clp.inHand }
      ∧ t.cc.acc = s.cc.acc ∧ t.pat = s.pat ∧ t.te.tie = s.te.tie ∧ t.ss = s.ss

/-- Operations that end, with the OP_DONE each fires (R155, R156): a DWELL DONE with reason TIME at its timer's expiry,
whose standing form begins its next cycle instead while nothing waits behind it and gives way when something does (R149,
R151); a PLUNGE DONE with reason SETTLED at its third decision HOLD running (R87); a LIFT DONE with reason TOP at a stroke
sample no less than STROKE_TOP (R150); and any operation but a DIG ABORTED with reason SOFT_ABORT at SOFT_ABORT (R152).
The cycle count given for an operation that began no cycle is left free (log 9). For the LIFT the constants are ones the
part can hold (R191), STROKE_BOTTOM below STROKE_TOP. -/
def Obligations.OperationsComplete : Prop :=
  ∀ (op : Operation) (info : RunInfo) (s : State), op.state = .executing info →
    let firing : OpOutcome → OpReason → Nat → Clp → Clp → Prop := fun out why left before after => ∃ cycles : Nat,
      after = fireIn (.opDone op.tag (kindOf op.params) out why cycles left) s.clock (chainage s) before
      ∧ (kindOf op.params = .hold ∨ kindOf op.params = .dwell → 0 < info.cycles → cycles = info.cycles)
      ∧ (kindOf op.params ≠ .hold → kindOf op.params ≠ .dwell → cycles = 0)
    let ended : OpOutcome → OpReason → State → Prop := fun out why t =>
      queueDone t ∧ firing out why 0 s.clp t.clp ∧ t.cc.acc = s.cc.acc ∧ t.pat = s.pat
    (∀ time due, s.oq.ops = [op] → op.params = .dwell time → s.oq.dwellTimer = some due → op.standing = false →
      ∃ t, exec .dwellTimerExpiry s = .next t ∧ ended .done .time t)
    ∧ (∀ time due, s.oq.ops = [op] → op.params = .dwell time → s.oq.dwellTimer = some due → op.standing = true →
      exec .dwellTimerExpiry s = .next (formPermit { s with oq := { s.oq with
        ops := [{ op with state := .executing { info with cycles := countOne info.cycles, cycleTime := s.clock } }]
        dwellTimer := some (s.clock + BitVec.ofNat 32 time) } }))
    ∧ (∀ time due waiting next, s.oq.ops = [op, waiting] → op.params = .dwell time → s.oq.dwellTimer = some due →
      waiting.params = .dwell next → waiting.state = .waiting →
      ∃ t, exec .dwellTimerExpiry s = .next t ∧ firing .done .time 1 s.clp t.clp
        ∧ t.oq.ops = [{ waiting with state := .executing {
              startTime := s.clock, cycles := 1, cycleChainage := 0, cycleTime := s.clock } }]
        ∧ t.oq.dwellTimer = some (s.clock + BitVec.ofNat 32 next) ∧ t.gl.v = 0)
    ∧ (∀ q l b due target, s.oq.ops = [op] → loopHas q l s → q.beam = .inWindow b → l.state = .tracking due →
      tiltUnclamped s → l.kind = .plunge → l.target = .given target → l.holdCount = 2 →
      decide3 l.shallow l.deep (filteredError (pushError l.window (measuredDepth b s - target))) = .hold →
      ∃ t, exec .gradeLoopStrike s = .next t ∧ ended .done .settled t)
    ∧ (∀ r, s.oq.ops = [op] → op.params = .lift → s.sm = none → ConstantsLaw s → tickFaults r s.os = [] →
      (s.clp.consts.strokeTop : Int) ≤ strokeReading r.stroke →
      ∃ t, exec (.sampleTick r) s = .next t ∧ ended .done .top t)
    ∧ (∀ tag, s.oq.ops = [op] → kindOf op.params ≠ .dig →
      ∃ t, exec (.softAbort tag) s = .next t ∧ queueDone t ∧ t.cc.acc = s.cc.acc ∧ t.pat = s.pat
        ∧ firing .aborted .softAbort 0 s.clp { t.clp with
            reply := s.clp.reply, held := s.clp.held, rx := s.clp.rx, inHand := s.clp.inHand }
        ∧ t.clp.reply = some ⟨50, tag, .ok, .none⟩)

/-- RESUME at a held segment end makes the staged segment current and the run RUNNING, the window cleared and
SEGMENT_CHANGE fired (R58, R61); it removes RESUME_WAIT (R114), and with neither pending it is refused (R154). SOFT_ABORT
of a running DIG holds the line at the target chainage and puts it in STOPPING until the machine stands (R66), and with
nothing executing it is refused (R152). -/
def Obligations.ResumeAndSoftAbortOfADig : Prop :=
  ∀ (tag : Nat) (s : State),
    (∀ r st g high, s.lt = some r → r.phase = .segmentHold → r.staged = some st →
      (segmentsOf (sheetAt s r.sheet).body)[st.index]? = some g → s.cc.chw = some high → high < st.cs + g.length →
      ∃ t, exec (.resume tag) s = .next t
        ∧ t.clp.reply = some ⟨52, tag, .ok, .resumed true s.oq.pause.resumeWait⟩
        ∧ t.lt = some { r with
            cur := { index := st.index, cs := st.cs, invert := st.invert, grade := g.grade, length := g.length
                     marker := g.marker, stopAtEnd := g.stopAtEnd }
            staged := if st.index + 1 < (segmentsOf (sheetAt s r.sheet).body).length then
                some { index := st.index + 1, cs := st.cs + g.length, invert := st.invert + (riseOf g.grade g.length : Int) }
              else none
            phase := .running, frozen := none }
        ∧ t.oq.pause = { s.oq.pause with segmentHold := false, resumeWait := false }
        ∧ t.gl = { s.gl with loop := s.gl.loop.map fun l =>
            { l with window := [], settle := s.clp.consts.settleCount, holdCount := 0 } }
        ∧ t.clp.flags.getLsbD 0 = true ∧ (g.marker ≠ .none → t.clp.flags.getLsbD 2 = true)
        ∧ t.pat = s.pat ∧ t.ss = s.ss ∧ t.cc = s.cc ∧ t.te = s.te ∧ t.oq.ops = s.oq.ops)
    ∧ (runPhase s ≠ some .segmentHold → s.oq.pause.resumeWait = true →
      exec (.resume tag) s = .next (answer .resume tag .ok (.resumed false true) (formPermit { s with
        oq := { s.oq with pause := { s.oq.pause with resumeWait := false } } })))
    ∧ (runPhase s ≠ some .segmentHold → s.oq.pause.resumeWait = false →
      exec (.resume tag) s = .next (refuse .resume tag .state s))
    ∧ (∀ r, executingKind s = some .dig → s.lt = some r → r.phase = .running → s.cc.still = .moving →
      ∃ t, exec (.softAbort tag) s = .next t ∧ t.clp.reply = some ⟨50, tag, .ok, .none⟩
        ∧ t.lt = some { r with softAborted := true, phase := .stopping, unbenched := false
                               frozen := some (min (chainage s) (r.cur.cs + r.cur.length)) }
        ∧ t.oq = { s.oq with pause := { s.oq.pause with segmentHold := false, bench := false, stopping := true } }
        ∧ t.te = { s.te with bench := none } ∧ t.os.permit = false
        ∧ t.gl = s.gl ∧ t.cc = s.cc ∧ t.pat = s.pat ∧ t.ss = s.ss)
    ∧ (executingKind s = none → exec (.softAbort tag) s = .next (refuse .softAbort tag .state s))

/-- STOP empties the queue, the executing operation ending ABORTED with reason STOP, ends a tie with reason STOPPED and
leaves the sequencer IDLE, or FAULTED while it was, with every context gone, V and the duties 0 and the permit withdrawn
where an operation was held (R153, R155); as a broadcast it is not answered (R186). RESTART does the same (R160) and
returns the part to rest: planes STANDBY without ties, the slot empty, the shadow run left, flags and reports cleared,
while sheets, enables and constants are kept (R23, R181, R193). -/
def Obligations.StopAndRestart : Prop :=
  ∀ (tag : Nat) (s : State),
    (∀ broadcast, ∃ t, exec (.stop broadcast tag) s = .next t
      ∧ t.oq.ops = [] ∧ t.te.tie = none ∧ t.os.permit = false ∧ t.os.pin = false
      ∧ t.oq.seq = (if s.oq.seq = .faulted then .faulted else .idle)
      ∧ (s.oq.ops ≠ [] → queueDone t)
      ∧ (∀ op info, s.oq.ops = [op] → op.state = .executing info → s.te.tie = none → ∃ cycles,
          t.clp = { fireIn (.opDone op.tag (kindOf op.params) .aborted .stop cycles 0) s.clock (chainage s) s.clp with
            reply := t.clp.reply, held := t.clp.held, rx := t.clp.rx, inHand := t.clp.inHand })
      ∧ (∀ r, s.te.tie = some r → t.te.last = some (.failed r.candidate .stopped r.pairs.length none)
          ∧ entryAt t r.candidate = { entryAt s r.candidate with role := .standby, tie := none })
      ∧ (∀ j, s.te.tie.map (·.candidate) ≠ some j → entryAt t j = entryAt s j)
      ∧ (∀ n, (sheetAt t n).body = (sheetAt s n).body) ∧ t.cc.acc = s.cc.acc ∧ t.mlr = s.mlr ∧ t.sq = s.sq
      ∧ t.clp.reply = (if broadcast then s.clp.reply else some ⟨51, tag, .ok, .none⟩))
    ∧ ∃ t, exec (.restart tag) s = .next t ∧ t.clp.reply = some ⟨10, tag, .ok, .none⟩
      ∧ t.oq.ops = [] ∧ t.te.tie = none ∧ t.os.permit = false ∧ t.os.pin = false ∧ t.sm = none
      ∧ (s.oq.ops ≠ [] → queueEmptied t)
      ∧ (∀ r, s.te.tie = some r → t.te.last = some (.failed r.candidate .stopped r.pairs.length none))
      ∧ t.oq.seq = (if s.oq.seq = .faulted then .faulted else .idle)
      ∧ (∀ m, s.sm = some m → t.cc.acc = m.setAside ∧ t.cc.source = .wheel) ∧ (s.sm = none → t.cc.acc = s.cc.acc)
      ∧ (PlaneLaw s → ∀ i, entryAt t i = { entryAt s i with
          role := if (entryAt s i).role = .empty then .empty else .standby, tie := none, matched := false, last := none })
      ∧ t.mlr = { s.mlr with rx := .hunting, slot := none }
      ∧ t.sq = { toLoop := none, toBench := none, toTie := none, foreignLatch := false }
      ∧ (∀ n, (sheetAt t n).body = (sheetAt s n).body) ∧ t.clp.flags = 0 ∧ t.clp.reports = []
      ∧ t.clp.enables = s.clp.enables ∧ t.clp.consts = s.clp.consts ∧ t.clp.address = s.clp.address

/-! ## The output stage -/

/-- A sample tick with sound coils and a stroke in range (R163 to R165): the samples and the good results are recorded and
the health set is empty. The stroke handed on is the sample, or in a shadow run the simulated stroke (R164). At the bottom
with V below 0 it cuts V to 0 and sets REACH, REACH_LIMIT firing with the stroke and the level cut when it was absent; at
the top with V above 0 it cuts V to 0 without event or pause (R93, R94); above the bottom it removes REACH (R95); and
otherwise nothing else changes. -/
def Obligations.SampleTick : Prop :=
  ∀ (r : Readings) (s : State), executingKind s ≠ some .lift →
    0 ≤ strokeReading r.stroke → strokeReading r.stroke ≤ 1000 →
    (s.os.raiseDuty = 0 ∧ r.raise.path = true)
      ∨ (100 ≤ s.os.raiseDuty ∧ 50 ≤ r.raise.current ∧ r.raise.current ≤ 3000) →
    (s.os.lowerDuty = 0 ∧ r.lower.path = true)
      ∨ (100 ≤ s.os.lowerDuty ∧ 50 ≤ r.lower.current ∧ r.lower.current ≤ 3000) →
    let o := { s.os with
      raise := { openCount := 0, latest := .good }, lower := { openCount := 0, latest := .good }
      stroke := (strokeReading r.stroke).toNat, strokeOk := true, tilt := tiltReading r.tilt
      health := { openRaise := false, openLower := false, strokeRange := false } }
    let model := s.sm.map fun m => { m with handed := m.stroke }
    let stroke : Nat := match s.sm with
      | some m => m.stroke
      | none => (strokeReading r.stroke).toNat
    let cut : State → Prop := fun t => t.gl = { s.gl with v := 0 } ∧ t.os.raiseDuty = 0 ∧ t.os.lowerDuty = 0
      ∧ t.os.stroke = o.stroke ∧ t.os.tilt = o.tilt ∧ t.sm = model.map (fun m => { m with drive := 0 })
      ∧ t = { s with gl := t.gl, os := t.os, sm := t.sm, clp := t.clp, oq := { s.oq with pause := t.oq.pause } }
    ((s.oq.pause.reach = true → stroke ≤ s.clp.consts.strokeBottom) →
      (s.gl.v < 0 → s.clp.consts.strokeBottom < stroke) → (0 < s.gl.v → stroke < s.clp.consts.strokeTop) →
      exec (.sampleTick r) s = .next (formPermit { s with os := o, sm := model }))
    ∧ (s.oq.pause.reach = true → s.clp.consts.strokeBottom < stroke → (0 < s.gl.v → stroke < s.clp.consts.strokeTop) →
      exec (.sampleTick r) s = .next (formPermit { s with
        os := o, sm := model, oq := { s.oq with pause := { s.oq.pause with reach := false } } }))
    ∧ (s.gl.v < 0 → stroke ≤ s.clp.consts.strokeBottom →
      ∃ t, exec (.sampleTick r) s = .next t ∧ cut t ∧ t.oq.pause = { s.oq.pause with reach := true }
        ∧ t.os.permit = false
        ∧ t.clp = (if s.oq.pause.reach then s.clp else fireIn (.reachLimit stroke s.gl.v) s.clock (chainage s) s.clp))
    ∧ (0 < s.gl.v → s.clp.consts.strokeTop ≤ stroke → s.clp.consts.strokeBottom < stroke →
      ∃ t, exec (.sampleTick r) s = .next t ∧ cut t ∧ t.oq.pause = { s.oq.pause with reach := false } ∧ t.clp = s.clp)

/-- A stroke out of range, a driven coil above 3 A and the third open reading running declare a fault (R163, R164): the
part is FAULTED with both duties 0, the permit withdrawn, the queue empty, the tie ended and FAULT fired (R166). While
FAULTED the record stands. CLEAR_FAULT ends it when the health set is empty, and is refused otherwise (R168). -/
def Obligations.FaultIsDeclaredAndCleared : Prop :=
  ∀ (r : Readings) (tag : Nat) (s : State),
    let seen : Nat → CoilSense → Coil → Prop := fun duty c old => (0 < duty ∧ 3000 < c.current)
      ∨ (old.openCount = 2 ∧ ((duty = 0 ∧ c.path = false) ∨ (100 ≤ duty ∧ c.current < 50)))
    (s.os.faulted = false → strokeReading r.stroke < 0 ∨ 1000 < strokeReading r.stroke
        ∨ seen s.os.raiseDuty r.raise s.os.raise ∨ seen s.os.lowerDuty r.lower s.os.lower →
      ∃ t, exec (.sampleTick r) s = .next t ∧ t.os.faulted = true ∧ t.os.raiseDuty = 0 ∧ t.os.lowerDuty = 0
        ∧ t.os.permit = false ∧ t.os.pin = false ∧ t.os.record.isSome = true ∧ t.oq.ops = [] ∧ t.oq.seq = .faulted
        ∧ t.te.tie = none ∧ t.clp.flags.getLsbD 14 = true)
    ∧ (s.os.faulted = true → ∃ t, exec (.sampleTick r) s = .next t ∧ t.os.faulted = true ∧ t.os.record = s.os.record
        ∧ t.os.permit = false
        ∧ t.os.health.strokeRange = decide (strokeReading r.stroke < 0 ∨ 1000 < strokeReading r.stroke))
    ∧ (s.os.faulted = true → healthy s.os.health = true →
      exec (.clearFault tag) s = .next (answer .clearFault tag .ok .none (formPermit { s with
        os := { s.os with faulted := false, raise := { s.os.raise with openCount := 0 },
                          lower := { s.os.lower with openCount := 0 } }
        oq := { s.oq with seq := .idle } })))
    ∧ (s.os.faulted = true → healthy s.os.health = false →
      exec (.clearFault tag) s = .next (refuse .clearFault tag .faulted s))
    ∧ (s.os.faulted = false → exec (.clearFault tag) s = .next (refuse .clearFault tag .state s))

/-! ## The shadow model -/

/-- A step of the shadow model (R177 to R180). The depth changes by the floored product and the stroke against it, the
change cut so that the depth does not fall below L − 145 and the stroke stays within 0 to 1000. With the permit withdrawn
the chainage stands; in a gap no strike is made; and otherwise one of the ACTIVE entry is offered to the slot, with its
cells in the window or its status above or below it. With the permit given the chainage advances first. -/
def Obligations.ShadowStep : Prop :=
  ∀ (m : Shadow) (s : State), s.sm = some m →
    let k := s.clp.consts
    let free : Int := -((m.drive * (k.shadowRate * k.shadowPeriod : Nat)) / 1000000)
    let change : Int := max (max ((m.mast : Int) - 145 - m.ds) ((m.stroke : Int) - 1000)) (min m.stroke free)
    let m' := { m with ds := m.ds + change, stroke := ((m.stroke : Int) - change).toNat,
                       due := s.clock + BitVec.ofNat 32 k.shadowPeriod }
    let b := m.ds + change - m.mast
    (∀ g, s.os.permit = false → m.gap = some g → chainage s < g.start + g.distance →
      exec .shadowPeriodTimerExpiry s = .next (formPermit { s with sm := some m' }))
    ∧ (∀ i, s.os.permit = false → m.gap = none ∨ (∃ g, m.gap = some g ∧ g.start + g.distance ≤ chainage s) →
      activeEntry s = some i → s.mlr.slot = none →
      let strike : Byte → Byte → Byte → Strike := fun status first last => {
        sig := BitVec.ofNat 8 (entryAt s i).sigLo, first := first, last := last, status := status
        chainage := chainage s, time := s.clock, generated := true }
      let with_ : Strike → State := fun x => formPermit { s with
        sm := some { m' with gap := none }, mlr := { s.mlr with slot := some x } }
      (-95 ≤ b → b ≤ 95 → exec .shadowPeriodTimerExpiry s = .next (with_ (strike 0
          (BitVec.ofNat 8 ((b + 95).toNat / 2)) (BitVec.ofNat 8 (((b + 95).toNat + 1) / 2)))))
      ∧ (95 < b → exec .shadowPeriodTimerExpiry s = .next (with_ (strike 1 0 0)))
      ∧ (b < -95 → exec .shadowPeriodTimerExpiry s = .next (with_ (strike 2 0 0))))
    ∧ (s.os.permit = true → s.oq.ops.length ≤ 1 → ∃ t, exec .shadowPeriodTimerExpiry s = .next t
      ∧ t.cc.acc = min (s.cc.acc + k.shadowSpeed * k.shadowPeriod) 999999999 ∧ t.cc.source = s.cc.source)

/-- SHADOW_ON sets the real chainage aside, starts the model from the machine and turns both coils off (R161, R173, R175,
R176); SHADOW_OFF restores the chainage with its residue and drops a generated strike, a tie in flight ending STOPPED first
(R181, R136); SHADOW_GAP cuts the strikes off from the chainage as it stands, or with distance 0 ends the gap (R180); with
the refusals of each, those of SHADOW_ON in the order R173 numbers them. The model's own readings in it: SHADOW_GAP tests
BAD_VALUE before STATE, and SHADOW_OFF STATE before BUSY (log 20), the two duties are written 0 at SHADOW_ON with the open
counts following (log 34), and the stroke last handed on begins as the latest sample (log 14). -/
def Obligations.ShadowRequests : Prop :=
  ∀ (tag : Nat) (s : State),
    (∀ i, s.sm = none → s.os.faulted = false → s.oq.ops = [] → s.te.tie = none → activeEntry s = some i →
      exec (.shadowOn tag) s = .next (answer .shadowOn tag .ok .none (formPermit { s with
        cc := { s.cc with acc := 1000 * chainage s, limitLatch := false, anchor := chainage s, source := .shadow }
        os := setDuties 0 0 s.os
        sm := some {
          setAside := s.cc.acc, stroke := s.os.stroke, mast := s.clp.consts.mastLength
          ds := s.clp.consts.mastLength + ((entryAt s i).last.bind fun x => beamOffset x.beam).getD 0
          due := s.clock + BitVec.ofNat 32 s.clp.consts.shadowPeriod, gap := none, drive := s.gl.v
          handed := s.os.stroke } })))
    ∧ (s.sm ≠ none → exec (.shadowOn tag) s = .next (refuse .shadowOn tag .state s))
    ∧ (s.sm = none → s.os.faulted = true → exec (.shadowOn tag) s = .next (refuse .shadowOn tag .faulted s))
    ∧ (s.sm = none → s.os.faulted = false → s.oq.ops ≠ [] ∨ s.te.tie ≠ none →
      exec (.shadowOn tag) s = .next (refuse .shadowOn tag .busy s))
    ∧ (s.sm = none → s.os.faulted = false → s.oq.ops = [] → s.te.tie = none → activeEntry s = none →
      exec (.shadowOn tag) s = .next (refuse .shadowOn tag .state s))
    ∧ (∀ m, s.sm = some m → s.oq.ops = [] → s.te.tie = none →
      exec (.shadowOff tag) s = .next (answer .shadowOff tag .ok .none (formPermit { s with
        cc := { s.cc with acc := m.setAside, limitLatch := false, anchor := m.setAside / 1000, source := .wheel }
        mlr := { s.mlr with slot := s.mlr.slot.filter fun x => !x.generated }
        sm := none })))
    ∧ (∀ m r, s.sm = some m → s.oq.ops = [] → s.te.tie = some r → ∃ t, exec (.shadowOff tag) s = .next t
      ∧ t.te = { s.te with tie := none, last := some (.failed r.candidate .stopped r.pairs.length none) }
      ∧ entryAt t r.candidate = { entryAt s r.candidate with role := .standby, tie := none }
      ∧ (∀ j, j ≠ r.candidate → entryAt t j = entryAt s j)
      ∧ t.cc = { s.cc with acc := m.setAside, limitLatch := false, anchor := m.setAside / 1000, source := .wheel }
      ∧ t.mlr = { s.mlr with slot := s.mlr.slot.filter fun x => !x.generated } ∧ t.sm = none ∧ t.oq = s.oq
      ∧ t.clp = { fireIn (.tieFailed r.candidate .stopped r.pairs.length none) s.clock (chainage s) s.clp with
          reply := some ⟨81, tag, .ok, .none⟩, held := true, rx := .hunting, inHand := t.clp.inHand })
    ∧ (s.sm = none → exec (.shadowOff tag) s = .next (refuse .shadowOff tag .state s))
    ∧ (∀ m, s.sm = some m → s.oq.ops ≠ [] → exec (.shadowOff tag) s = .next (refuse .shadowOff tag .busy s))
    ∧ (∀ m distance, s.sm = some m → distance ≤ 50000 →
      exec (.shadowGap tag distance) s = .next (answer .shadowGap tag .ok .none { s with sm := some { m with
        gap := if distance = 0 then none else some { start := chainage s, distance := distance } } }))
    ∧ (∀ distance, 50000 < distance → exec (.shadowGap tag distance) s = .next (refuse .shadowGap tag .badValue s))
    ∧ (∀ distance, s.sm = none → distance ≤ 50000 →
      exec (.shadowGap tag distance) s = .next (refuse .shadowGap tag .state s))

/-! ## The cab line -/

/-- The receiver of the cab line (R185): a well-formed 0x5A in HUNTING starts a frame; in COLLECTING a byte of the head, of
the body and the first of the CRC is appended and restarts the gap timer; a byte with a low stop bit, a length above 48, a
last byte that makes a CRC other than the frame's own (R183) and the gap timer's expiry drop the frame with one
CAB_DROPPED; while a reply is being sent nothing is received, and its end frees the receiver (R187). -/
def Obligations.CabReceiver : Prop :=
  ∀ (data : Byte) (stop : Bool) (s : State),
    let dropped : State := { s with clp := { s.clp with
      rx := .hunting, counters := { s.clp.counters with cabDropped := countOne s.clp.counters.cabDropped } } }
    (s.clp.held = true → exec (.cabByte data stop) s = .next s)
    ∧ (s.clp.held = false → s.clp.rx = .hunting → stop = true → data = 0x5A →
      exec (.cabByte data stop) s
        = .next { s with clp := { s.clp with rx := .collecting [data] (s.clock + 2) } })
    ∧ (s.clp.held = false → s.clp.rx = .hunting → stop = false ∨ data ≠ 0x5A →
      exec (.cabByte data stop) s = .next s)
    ∧ (∀ bytes due, s.clp.held = false → s.clp.rx = .collecting bytes due → stop = true →
      bytes.length < 4 → exec (.cabByte data stop) s
        = .next { s with clp := { s.clp with rx := .collecting (bytes ++ [data]) (s.clock + 2) } })
    ∧ (∀ bytes due, s.clp.held = false → s.clp.rx = .collecting bytes due →
      stop = false ∨ (bytes.length = 4 ∧ 48 < data.toNat) → exec (.cabByte data stop) s = .next dropped)
    ∧ (∀ bytes due, s.clp.held = false → s.clp.rx = .collecting bytes due → stop = true →
      bytes.length = 4 → data.toNat ≤ 48 → exec (.cabByte data stop) s
        = .next { s with clp := { s.clp with rx := .collecting (bytes ++ [data]) (s.clock + 2) } })
    ∧ (∀ sync address kind tag length body due, s.clp.held = false →
      s.clp.rx = .collecting ([sync, address, kind, tag, length] ++ body) due → stop = true → length.toNat ≤ 48 →
      body.length ≤ length.toNat → exec (.cabByte data stop) s = .next { s with clp := { s.clp with
        rx := .collecting ([sync, address, kind, tag, length] ++ body ++ [data]) (s.clock + 2) } })
    ∧ (∀ sync address kind tag length body high due, s.clp.held = false →
      s.clp.rx = .collecting ([sync, address, kind, tag, length] ++ body ++ [high]) due → stop = true →
      length.toNat ≤ 48 → body.length = length.toNat → crc16 ([address, kind, tag, length] ++ body) ≠ high ++ data →
      exec (.cabByte data stop) s = .next dropped)
    ∧ (∀ bytes due, s.clp.rx = .collecting bytes due → exec .cabGapTimerExpiry s = .next dropped)
    ∧ (∀ r, s.clp.reply = some r →
      exec .replyComplete s = .next { s with clp := { s.clp with reply := none, held := false } })

/-- The last byte of a frame with a good CRC (R183, R185 to R187): addressed to this node, a request of the catalogue
with the length its fields imply waits to be taken and the receiver is held, an unknown kind waits to be answered
BAD_KIND, and a wrong length is answered BAD_LENGTH at once, the requests in hand staying as they were; a broadcast STOP
waits to be taken and holds nothing; another node's frame is ignored. That a received request waits in the port's hand is
the model's choice (log 4), and so it is that a broadcast STOP waits there too, the receiver listening meanwhile (log 30). The length that an ENQUEUE's
fields imply is read as logs 29 and 39 say: none fits a body too short to hold the kind, and the time of a DWELL is 2
bytes. -/
def Obligations.GoodCabFrame : Prop :=
  ∀ (address kind tag : Nat) (body bytes : List Byte) (data : Byte) (due : Time) (s : State),
    address < 256 → kind < 256 → tag < 256 → body.length ≤ 48 → s.clp.held = false → s.clp.address ≤ 3 →
    s.clp.rx = .collecting bytes due → bytes ++ [data] = frameOf address kind tag body →
    let heard : Bool → List Received → State := fun held more => { s with
      clp := { s.clp with rx := .hunting, held := held, inHand := s.clp.inHand ++ more } }
    (∀ q, address = 16 * s.clp.address → requestOfCode kind = some q → lengthMatches q body = true →
      exec (.cabByte data true) s = .next (heard true [⟨kind, tag, false, requestCommand q tag body⟩]))
    ∧ (address = 16 * s.clp.address → requestOfCode kind = none →
      exec (.cabByte data true) s = .next (heard true [⟨kind, tag, false, .unknownKindRequest tag kind⟩]))
    ∧ (∀ q, address = 16 * s.clp.address → requestOfCode kind = some q → lengthMatches q body = false →
      exec (.cabByte data true) s = .next { s with
        clp := { s.clp with rx := .hunting, held := true, reply := some ⟨kind, tag, .badLength, .none⟩ } })
    ∧ (address = 0xF0 → kind = 51 → body = [] →
      exec (.cabByte data true) s = .next (heard false [⟨51, tag, true, .stop true tag⟩]))
    ∧ (address = 0xF0 → kind ≠ 51 ∨ body ≠ [] → exec (.cabByte data true) s = .next (heard false []))
    ∧ (address ≠ 16 * s.clp.address → address ≠ 0xF0 →
      exec (.cabByte data true) s = .next (heard false []))

/-- The requests that read, and those of the flags, enables, reports and counters: what each places in its reply and what
it changes besides (R138, R158, R187 to R192); an unknown kind is answered BAD_KIND (R187). That an answer is given in
every state, replaces a reply still being sent, holds the receiver and takes the first request of its kind and tag that
was addressed to this node out of the port's hand, wherever it stands there, is the model's choice (log 4). -/
def Obligations.PortRequests : Prop :=
  ∀ (tag : Nat) (s : State),
    (∀ q result contents, answer q tag result contents s = { s with clp := { s.clp with
      reply := some ⟨requestCode q, tag, result, contents⟩, held := true, rx := .hunting,
      inHand := dropTaken false (requestCode q) tag s.clp.inHand } })
    ∧ (∀ broadcast kind (r : Received) (before after : List Received),
      (∀ x ∈ before, ¬(x.broadcast = broadcast ∧ x.kind = kind ∧ x.tag = tag)) →
      dropTaken broadcast kind tag before = before
      ∧ (r.broadcast = broadcast → r.kind = kind → r.tag = tag →
        dropTaken broadcast kind tag (before ++ r :: after) = before ++ after))
    ∧ exec (.identify tag) s = .next (answer .identify tag .ok (.identify 1 s.clp.address s.clock) s)
    ∧ exec (.status tag) s = .next (answer .status tag .ok (.status (statusReply s)) s)
    ∧ exec (.readQueue tag) s = .next (answer .readQueue tag .ok (.queue (queueReply s)) s)
    ∧ exec (.readTie tag) s = .next (answer .readTie tag .ok (.tie (tieReply s)) s)
    ∧ exec (.readFlags tag) s = .next (answer .readFlags tag .ok (.flags s.clp.flags s.clp.enables) s)
    ∧ (∀ id c, constOfId id = some c → exec (.getConstant tag id) s
        = .next (answer .getConstant tag .ok (.constantRow c (getConst s.clp.consts c) (constRow c)) s))
    ∧ (∀ id, id = 0 ∨ 28 < id → exec (.getConstant tag id) s = .next (refuse .getConstant tag .badValue s))
    ∧ (∀ kind, exec (.unknownKindRequest tag kind) s = .next { s with clp := { s.clp with
        reply := some ⟨kind, tag, .badKind, .none⟩, held := true, rx := .hunting
        inHand := dropTaken false kind tag s.clp.inHand } })
    ∧ (∀ r rest, s.clp.reports = r :: rest → exec (.poll tag) s
        = .next (answer .poll tag .ok (.poll (some r) rest.length) { s with clp := { s.clp with reports := rest } }))
    ∧ (s.clp.reports = [] → exec (.poll tag) s = .next (answer .poll tag .ok (.poll none 0) s))
    ∧ (∀ mask : Mask, exec (.clearFlags tag mask) s
        = .next (answer .clearFlags tag .ok (.cleared (s.clp.flags &&& ~~~mask)) { s with
            clp := { s.clp with flags := s.clp.flags &&& ~~~mask }
            sq := { s.sq with foreignLatch := s.sq.foreignLatch && !mask.getLsbD 15 } }))
    ∧ (∀ mask, exec (.setEnables tag mask) s
        = .next (answer .setEnables tag .ok .none { s with clp := { s.clp with enables := mask } }))
    ∧ exec (.readCounts tag) s = .next (answer .readCounts tag .ok (.counts s.clp.counters) { s with
        clp := { s.clp with counters := Counters.zero } })

/-- What the three replies show of the part. STATUS (R192): every block's figures, the executing operation with its
state, the run context as R50 lists it, the loop context with each field of its state (R71, R100), its target absent while
unlatched (R80), and the decision record. READ_QUEUE (R158): each operation as given, and of the executing one its times
and what its kind adds. READ_TIE (R138): the tie in flight, the bench and the last outcome, with the least and the
greatest of a list. -/
def Obligations.RepliesThatShowThePart : Prop :=
  (∀ s : State, statusReply s = {
      faulted := s.os.faulted, health := s.os.health, record := s.os.record, seq := s.oq.seq, op := (statusReply s).op
      pause := s.oq.pause, v := s.gl.v, raiseDuty := s.os.raiseDuty, lowerDuty := s.os.lowerDuty
      permit := s.os.permit, pin := s.os.pin, stroke := s.os.stroke, tilt := s.os.tilt, chainage := s.cc.acc / 1000
      source := s.cc.source, chw := s.cc.chw, still := s.cc.still
      run := s.lt.map fun r => {
        sheet := r.sheet, k0 := r.k0, c0 := r.c0, base := r.base, phase := r.phase, index := r.cur.index
        start := r.cur.cs, invert := r.cur.invert, finish := r.cur.cs + r.cur.length, staged := r.staged
        frozen := r.frozen }
      loop := (statusReply s).loop, tieState := (tieReply s).state
      shadow := s.sm.map fun m => {
        stroke := m.stroke, ds := m.ds, gap := m.gap.map fun g => (g, s.cc.acc / 1000 - g.start) }
      lineOn := s.mlr.lineOn, flags := s.clp.flags, reports := s.clp.reports.length }
    ∧ (executing s = none → (statusReply s).op = none)
    ∧ (∀ op rest info, s.oq.ops = op :: rest → op.state = .executing info → (statusReply s).op = some {
        kind := kindOf op.params, tag := op.tag, state := .executing, startTime := info.startTime })
    ∧ (s.gl.loop = none → (statusReply s).loop = none)
    ∧ (∀ l, s.gl.loop = some l → ∃ x : StatusLoop, (statusReply s).loop = some x
      ∧ x = { x with kind := l.kind, shallow := l.shallow, deep := l.deep, window := l.window, settle := l.settle
                     holdCount := if l.kind = .plunge then some l.holdCount else none, record := l.record }
      ∧ (l.state = .acquiring → x.state = .acquiring)
      ∧ (∀ due, l.state = .tracking due → x.state = .tracking due)
      ∧ (∀ start since, l.state = .coasting start since → x.state = .coasting start)
      ∧ (∀ dir level start due flips since, l.state = .searching dir level start due flips since →
          x.state = .searching dir level start due flips)
      ∧ (∀ drive, l.state = .lost drive → x.state = .lost drive)
      ∧ (l.target = .absent ∨ l.target = .unlatched → x.target = none)
      ∧ (∀ d, l.target = .given d → x.target = some { depth := d, latched := false })
      ∧ (∀ d, l.target = .latched d → x.target = some { depth := d, latched := true })))
  ∧ (∀ s : State, (queueReply s).seq = s.oq.seq ∧ (queueReply s).count = s.oq.ops.length
    ∧ (queueReply s).pause = s.oq.pause ∧ (queueReply s).items.length = s.oq.ops.length
    ∧ (∀ (i : Nat) (op : Operation), s.oq.ops[i]? = some op → ∃ x : QueueItem, (queueReply s).items[i]? = some x
      ∧ x = { x with position := i, tag := op.tag, params := op.params, standing := op.standing }
      ∧ (op.state = .waiting → x.running = none)
      ∧ (∀ info, op.state = .executing info → ∃ d : QueueDetail, x.running = some (info.startTime, s.clock - info.startTime, d)
        ∧ (∀ n k e c r, op.params = .dig n k e c → s.lt = some r → d = .dig r.c0 r.softAborted)
        ∧ (∀ depth l, op.params = .plunge depth → s.gl.loop = some l → d = .plunge l.holdCount)
        ∧ (∀ depth distance l, op.params = .hold depth distance → s.gl.loop = some l →
            d = .hold info.cycles info.cycleChainage (s.cc.acc / 1000 - info.cycleChainage) (match l.target with
              | .given t => some t
              | .latched t => some t
              | _ => none))
        ∧ (∀ time due, op.params = .dwell time → s.oq.dwellTimer = some due → d = .dwell info.cycles (due - s.clock))
        ∧ (op.params = .lift → s.sm = none → d = .lift s.os.stroke))))
  ∧ (∀ s : State, tieReply s = {
      state := match s.te.tie with
        | none => .idle
        | some r => if r.result.isSome then .waiting else .collecting
      progress := s.te.tie.map fun r => {
        candidate := r.candidate, n := r.n, mode := r.mode, startChainage := r.startChainage
        since := s.clock - r.startTime, advance := s.cc.acc / 1000 - r.startChainage, cRef := r.cRef
        pairs := r.pairs.length, extremes := extremesOf (r.pairs.map (·.estimate))
        activeSlot := r.activeSlot.map (·.chainage), candidateSlot := r.candidateSlot.map (·.chainage)
        result := r.result }
      bench := s.te.bench.map fun b => {
        sampling := b.sampling, count := b.samples.length, extremes := extremesOf b.samples, reference := b.reference
        moveRestarts := b.moveRestarts, spreadRestarts := b.spreadRestarts }
      last := s.te.last })
  ∧ extremesOf [] = none
  ∧ (∀ (l : List Int) (least greatest : Int), extremesOf l = some (least, greatest) →
      least ∈ l ∧ greatest ∈ l ∧ (∀ x ∈ l, least ≤ x ∧ x ≤ greatest) ∧ spreadOf l = greatest - least)

/-- SET_CONSTANT holds the value clamped to its range, and DRIVE_MIN, DRIVE_MAX, STROKE_BOTTOM and STROKE_TOP then
against their partners; the reply carries the value held, CLAMPED when it is not the value sent; it is refused with
BAD_VALUE for an id outside 1 to 28 and with STATE while an operation, a tie or a shadow run is held (R191). -/
def Obligations.SetConstant : Prop :=
  ∀ (tag id : Nat) (value : Int) (s : State),
    (∀ c, constOfId id = some c → s.oq.ops = [] → s.te.tie = none → s.sm = none →
      ∃ held : Nat, exec (.setConstant tag id value) s
          = .next (answer .setConstant tag (if (held : Int) = value then .ok else .clamped) (.constant c held) { s with
              clp := { s.clp with consts := putConst s.clp.consts held c } })
        ∧ (let clamped := max ((constRow c).lo : Int) (min (constRow c).hi value)
           (c ≠ .driveMin → c ≠ .driveMax → c ≠ .strokeBottom → c ≠ .strokeTop → (held : Int) = clamped)
           ∧ (c = .driveMin → (held : Int) = min clamped s.clp.consts.driveMax)
           ∧ (c = .driveMax → (held : Int) = max clamped s.clp.consts.driveMin)
           ∧ (c = .strokeBottom → 100 ≤ s.clp.consts.strokeTop →
              (held : Int) = min clamped (s.clp.consts.strokeTop - 100))
           ∧ (c = .strokeTop → (held : Int) = max clamped (s.clp.consts.strokeBottom + 100))))
    ∧ (∀ c, constOfId id = some c → s.oq.ops ≠ [] ∨ s.te.tie ≠ none ∨ s.sm ≠ none →
      exec (.setConstant tag id value) s = .next (refuse .setConstant tag .state s))
    ∧ (id = 0 ∨ 28 < id → exec (.setConstant tag id value) s = .next (refuse .setConstant tag .badValue s))

/-! ## What only its owners change -/

/-- Every other command leaves alone what these few own: the constants (R191), the enables (R188), the contents of the
sheets (R37 to R42), the windows and slopes of the planes (R19, R20), the mast line's setting (R11), the FAULTED mark once
set (R168), the shadow mark (R173, R181, R193), and the node address and the clock (R1, R184). -/
def Obligations.OnlyOwnersChange : Prop :=
  ∀ (i : Instr) (s t : State), exec i s = .next t → (∀ a b w r, i ≠ .powerOn a b w r) →
    t.clp.address = s.clp.address ∧ t.clock = s.clock
    ∧ ((∀ tag id v, i ≠ .setConstant tag id v) → t.clp.consts = s.clp.consts)
    ∧ ((∀ tag m, i ≠ .setEnables tag m) → t.clp.enables = s.clp.enables)
    ∧ ((∀ tag n f, i ≠ .openSheet tag n f) → (∀ tag n a b c d, i ≠ .appendSegment tag n a b c d) →
        (∀ tag n, i ≠ .sealSheet tag n) → (∀ tag n, i ≠ .eraseSheet tag n) →
        ∀ n, (sheetAt t n).body = (sheetAt s n).body)
    ∧ ((∀ tag e a b p, i ≠ .definePlane tag e a b p) → (∀ tag e, i ≠ .clearPlane tag e) →
        ∀ j, (entryAt t j).sigLo = (entryAt s j).sigLo ∧ (entryAt t j).sigHi = (entryAt s j).sigHi
          ∧ (entryAt t j).slope = (entryAt s j).slope)
    ∧ ((∀ tag n, i ≠ .mastLine tag n) → t.mlr.lineOn = s.mlr.lineOn)
    ∧ ((∀ tag, i ≠ .clearFault tag) → s.os.faulted = true → t.os.faulted = true)
    ∧ ((∀ tag, i ≠ .shadowOn tag) → (∀ tag, i ≠ .shadowOff tag) → (∀ tag, i ≠ .restart tag) →
        t.sm.isSome = s.sm.isSome)

/-! ## Arithmetic of the line and the depth -/

/-- A quotient is rounded to the nearest whole number, a half away from zero (R2); the design line has no step where the
staged segment takes over and never falls along a run (R54); the tilt drop of a mast in range is at most 99 mm (R75). -/
def Obligations.RoundingTheLineAndTheDrop : Prop :=
  (∀ (n : Int) (d : Nat), 0 < d → 2 * (n - roundDiv n d * d).natAbs ≤ d
    ∧ (2 * (n - roundDiv n d * d).natAbs = d → n.natAbs < (roundDiv n d * d).natAbs))
  ∧ (∀ (l : List Segment) (c : CurrentSegment) (st : StagedSegment), stagedAfter l c = some st →
    st.cs = c.cs + c.length ∧ st.invert = designInvert c st.cs)
  ∧ (∀ (c : CurrentSegment) (a b : Nat), a ≤ b → designInvert c a ≤ designInvert c b)
  ∧ (∀ (mast : Nat) (t : Int), mast ≤ 4500 → -120 ≤ t → t ≤ 120 → tiltDrop mast t ≤ 99)

/-! ## What every step keeps -/

/-- Every step keeps the constants in their ranges with their partners (R191). -/
def Obligations.StepKeepsTheConstants : Prop :=
  ∀ (s t : State), ConstantsLaw s → step s = .next t → ConstantsLaw t

/-- Every step keeps the accumulator within its ends (R26), and the source SHADOW exactly while a shadow run is on
(R32). -/
def Obligations.StepKeepsTheChainageInRange : Prop :=
  (∀ (s t : State), ChainageLaw s → step s = .next t → ChainageLaw t)
  ∧ ∀ (s t : State), SourceLaw s → step s = .next t → SourceLaw t

/-- Every step keeps the bounded lists and counters of the port, the error window and the pair list (R83, R118, R126,
R189, R190). -/
def Obligations.StepKeepsTheBounds : Prop :=
  ∀ (s t : State), PortLaw s → WindowLaw s → PairLaw s → step s = .next t → PortLaw t ∧ WindowLaw t ∧ PairLaw t

/-- Every step keeps the queue to four operations of which the head alone has begun, with the sequencer to match
(R140, R143, R166). -/
def Obligations.StepKeepsTheQueue : Prop :=
  ∀ (s t : State), QueueLaw s → step s = .next t → QueueLaw t

/-- Every step keeps each sheet's in-use count at the number of queued DIGs that name it, and a sheet in use SEALED
(R45). -/
def Obligations.StepKeepsTheSheetsInUse : Prop :=
  ∀ (s t : State), SheetLaw s → step s = .next t → SheetLaw t

/-- Every step keeps the windows of the planes apart, at most one entry ACTIVE, and the CANDIDATE the one the tie names
(R18). -/
def Obligations.StepKeepsThePlanes : Prop :=
  ∀ (s t : State), PlaneLaw s → step s = .next t → PlaneLaw t

/-- Every step leaves the permit as R169 forms it, and never drives both coils, nor either one in a shadow run, while
FAULTED or with an empty queue (R161). -/
def Obligations.StepKeepsThePermitAndTheCoils : Prop :=
  ∀ (s t : State), PermitLaw s → CoilLaw s → step s = .next t → PermitLaw t ∧ CoilLaw t

/-- Every step keeps the run, loop and bench contexts present exactly while the executing operation has them (R27, R50,
R71, R118), and the high-water chainage no less than the chainage and the start of the run (R27). -/
def Obligations.StepKeepsTheContexts : Prop :=
  ∀ (s t : State), QueueLaw s → SheetLaw s → ContextLaw s → HighWaterLaw s → step s = .next t →
    ContextLaw t ∧ HighWaterLaw t

/-- Every step keeps the drive level within the bound of its loop state (R70, R100). -/
def Obligations.StepKeepsTheDriveBounded : Prop :=
  ∀ (s t : State), ConstantsLaw s → QueueLaw s → ContextLaw s → DriveLaw s → step s = .next t → DriveLaw t
end

