-- ==== Sys2Proof/Laws/State.lean ====
section
/-! SUPPORT. The fields of the state after each named update of it, so that no proof unfolds a record update: a
field the update leaves alone, and the value of one it writes. -/

namespace Sys2Proof.Laws

open Sys2Proof.Machine

variable (s : State)

/-! ## withPause -/

@[simp] theorem withPause_clock (f : PauseSet → PauseSet) : (withPause f s).clock = s.clock := rfl
@[simp] theorem withPause_mlr (f : PauseSet → PauseSet) : (withPause f s).mlr = s.mlr := rfl
@[simp] theorem withPause_sq (f : PauseSet → PauseSet) : (withPause f s).sq = s.sq := rfl
@[simp] theorem withPause_pat (f : PauseSet → PauseSet) : (withPause f s).pat = s.pat := rfl
@[simp] theorem withPause_cc (f : PauseSet → PauseSet) : (withPause f s).cc = s.cc := rfl
@[simp] theorem withPause_ss (f : PauseSet → PauseSet) : (withPause f s).ss = s.ss := rfl
@[simp] theorem withPause_lt (f : PauseSet → PauseSet) : (withPause f s).lt = s.lt := rfl
@[simp] theorem withPause_gl (f : PauseSet → PauseSet) : (withPause f s).gl = s.gl := rfl
@[simp] theorem withPause_te (f : PauseSet → PauseSet) : (withPause f s).te = s.te := rfl
@[simp] theorem withPause_oq (f : PauseSet → PauseSet) : (withPause f s).oq = { s.oq with pause := f s.oq.pause } := rfl
@[simp] theorem withPause_os (f : PauseSet → PauseSet) : (withPause f s).os = s.os := rfl
@[simp] theorem withPause_sm (f : PauseSet → PauseSet) : (withPause f s).sm = s.sm := rfl
@[simp] theorem withPause_clp (f : PauseSet → PauseSet) : (withPause f s).clp = s.clp := rfl
@[simp] theorem withPause_free (f : PauseSet → PauseSet) : (withPause f s).free = s.free := rfl
@[simp] theorem withPause_pending (f : PauseSet → PauseSet) : (withPause f s).pending = s.pending := rfl

/-! ## modifyLoop -/

@[simp] theorem modifyLoop_clock (f : LoopCtx → LoopCtx) : (modifyLoop f s).clock = s.clock := rfl
@[simp] theorem modifyLoop_mlr (f : LoopCtx → LoopCtx) : (modifyLoop f s).mlr = s.mlr := rfl
@[simp] theorem modifyLoop_sq (f : LoopCtx → LoopCtx) : (modifyLoop f s).sq = s.sq := rfl
@[simp] theorem modifyLoop_pat (f : LoopCtx → LoopCtx) : (modifyLoop f s).pat = s.pat := rfl
@[simp] theorem modifyLoop_cc (f : LoopCtx → LoopCtx) : (modifyLoop f s).cc = s.cc := rfl
@[simp] theorem modifyLoop_ss (f : LoopCtx → LoopCtx) : (modifyLoop f s).ss = s.ss := rfl
@[simp] theorem modifyLoop_lt (f : LoopCtx → LoopCtx) : (modifyLoop f s).lt = s.lt := rfl
@[simp] theorem modifyLoop_gl (f : LoopCtx → LoopCtx) : (modifyLoop f s).gl = { s.gl with loop := s.gl.loop.map f } := rfl
@[simp] theorem modifyLoop_te (f : LoopCtx → LoopCtx) : (modifyLoop f s).te = s.te := rfl
@[simp] theorem modifyLoop_oq (f : LoopCtx → LoopCtx) : (modifyLoop f s).oq = s.oq := rfl
@[simp] theorem modifyLoop_os (f : LoopCtx → LoopCtx) : (modifyLoop f s).os = s.os := rfl
@[simp] theorem modifyLoop_sm (f : LoopCtx → LoopCtx) : (modifyLoop f s).sm = s.sm := rfl
@[simp] theorem modifyLoop_clp (f : LoopCtx → LoopCtx) : (modifyLoop f s).clp = s.clp := rfl
@[simp] theorem modifyLoop_free (f : LoopCtx → LoopCtx) : (modifyLoop f s).free = s.free := rfl
@[simp] theorem modifyLoop_pending (f : LoopCtx → LoopCtx) : (modifyLoop f s).pending = s.pending := rfl

/-! ## setLoopState -/

@[simp] theorem setLoopState_clock (st : LoopState) : (setLoopState st s).clock = s.clock := rfl
@[simp] theorem setLoopState_mlr (st : LoopState) : (setLoopState st s).mlr = s.mlr := rfl
@[simp] theorem setLoopState_sq (st : LoopState) : (setLoopState st s).sq = s.sq := rfl
@[simp] theorem setLoopState_pat (st : LoopState) : (setLoopState st s).pat = s.pat := rfl
@[simp] theorem setLoopState_cc (st : LoopState) : (setLoopState st s).cc = s.cc := rfl
@[simp] theorem setLoopState_ss (st : LoopState) : (setLoopState st s).ss = s.ss := rfl
@[simp] theorem setLoopState_lt (st : LoopState) : (setLoopState st s).lt = s.lt := rfl
@[simp] theorem setLoopState_gl (st : LoopState) : (setLoopState st s).gl = { s.gl with loop := s.gl.loop.map fun l => { l with state := st } } := rfl
@[simp] theorem setLoopState_te (st : LoopState) : (setLoopState st s).te = s.te := rfl
@[simp] theorem setLoopState_oq (st : LoopState) : (setLoopState st s).oq = s.oq := rfl
@[simp] theorem setLoopState_os (st : LoopState) : (setLoopState st s).os = s.os := rfl
@[simp] theorem setLoopState_sm (st : LoopState) : (setLoopState st s).sm = s.sm := rfl
@[simp] theorem setLoopState_clp (st : LoopState) : (setLoopState st s).clp = s.clp := rfl
@[simp] theorem setLoopState_free (st : LoopState) : (setLoopState st s).free = s.free := rfl
@[simp] theorem setLoopState_pending (st : LoopState) : (setLoopState st s).pending = s.pending := rfl

/-! ## clearWindow -/

@[simp] theorem clearWindow_clock : (clearWindow s).clock = s.clock := rfl
@[simp] theorem clearWindow_mlr : (clearWindow s).mlr = s.mlr := rfl
@[simp] theorem clearWindow_sq : (clearWindow s).sq = s.sq := rfl
@[simp] theorem clearWindow_pat : (clearWindow s).pat = s.pat := rfl
@[simp] theorem clearWindow_cc : (clearWindow s).cc = s.cc := rfl
@[simp] theorem clearWindow_ss : (clearWindow s).ss = s.ss := rfl
@[simp] theorem clearWindow_lt : (clearWindow s).lt = s.lt := rfl
@[simp] theorem clearWindow_gl : (clearWindow s).gl = { s.gl with loop := s.gl.loop.map fun l =>
      { l with window := [], settle := s.clp.consts.settleCount, holdCount := 0 } } := rfl
@[simp] theorem clearWindow_te : (clearWindow s).te = s.te := rfl
@[simp] theorem clearWindow_oq : (clearWindow s).oq = s.oq := rfl
@[simp] theorem clearWindow_os : (clearWindow s).os = s.os := rfl
@[simp] theorem clearWindow_sm : (clearWindow s).sm = s.sm := rfl
@[simp] theorem clearWindow_clp : (clearWindow s).clp = s.clp := rfl
@[simp] theorem clearWindow_free : (clearWindow s).free = s.free := rfl
@[simp] theorem clearWindow_pending : (clearWindow s).pending = s.pending := rfl

/-! ## modifyTie -/

@[simp] theorem modifyTie_clock (f : TieRecord → TieRecord) : (modifyTie f s).clock = s.clock := rfl
@[simp] theorem modifyTie_mlr (f : TieRecord → TieRecord) : (modifyTie f s).mlr = s.mlr := rfl
@[simp] theorem modifyTie_sq (f : TieRecord → TieRecord) : (modifyTie f s).sq = s.sq := rfl
@[simp] theorem modifyTie_pat (f : TieRecord → TieRecord) : (modifyTie f s).pat = s.pat := rfl
@[simp] theorem modifyTie_cc (f : TieRecord → TieRecord) : (modifyTie f s).cc = s.cc := rfl
@[simp] theorem modifyTie_ss (f : TieRecord → TieRecord) : (modifyTie f s).ss = s.ss := rfl
@[simp] theorem modifyTie_lt (f : TieRecord → TieRecord) : (modifyTie f s).lt = s.lt := rfl
@[simp] theorem modifyTie_gl (f : TieRecord → TieRecord) : (modifyTie f s).gl = s.gl := rfl
@[simp] theorem modifyTie_te (f : TieRecord → TieRecord) : (modifyTie f s).te = { s.te with tie := s.te.tie.map f } := rfl
@[simp] theorem modifyTie_oq (f : TieRecord → TieRecord) : (modifyTie f s).oq = s.oq := rfl
@[simp] theorem modifyTie_os (f : TieRecord → TieRecord) : (modifyTie f s).os = s.os := rfl
@[simp] theorem modifyTie_sm (f : TieRecord → TieRecord) : (modifyTie f s).sm = s.sm := rfl
@[simp] theorem modifyTie_clp (f : TieRecord → TieRecord) : (modifyTie f s).clp = s.clp := rfl
@[simp] theorem modifyTie_free (f : TieRecord → TieRecord) : (modifyTie f s).free = s.free := rfl
@[simp] theorem modifyTie_pending (f : TieRecord → TieRecord) : (modifyTie f s).pending = s.pending := rfl

/-! ## modifyBench -/

@[simp] theorem modifyBench_clock (f : Bench → Bench) : (modifyBench f s).clock = s.clock := rfl
@[simp] theorem modifyBench_mlr (f : Bench → Bench) : (modifyBench f s).mlr = s.mlr := rfl
@[simp] theorem modifyBench_sq (f : Bench → Bench) : (modifyBench f s).sq = s.sq := rfl
@[simp] theorem modifyBench_pat (f : Bench → Bench) : (modifyBench f s).pat = s.pat := rfl
@[simp] theorem modifyBench_cc (f : Bench → Bench) : (modifyBench f s).cc = s.cc := rfl
@[simp] theorem modifyBench_ss (f : Bench → Bench) : (modifyBench f s).ss = s.ss := rfl
@[simp] theorem modifyBench_lt (f : Bench → Bench) : (modifyBench f s).lt = s.lt := rfl
@[simp] theorem modifyBench_gl (f : Bench → Bench) : (modifyBench f s).gl = s.gl := rfl
@[simp] theorem modifyBench_te (f : Bench → Bench) : (modifyBench f s).te = { s.te with bench := s.te.bench.map f } := rfl
@[simp] theorem modifyBench_oq (f : Bench → Bench) : (modifyBench f s).oq = s.oq := rfl
@[simp] theorem modifyBench_os (f : Bench → Bench) : (modifyBench f s).os = s.os := rfl
@[simp] theorem modifyBench_sm (f : Bench → Bench) : (modifyBench f s).sm = s.sm := rfl
@[simp] theorem modifyBench_clp (f : Bench → Bench) : (modifyBench f s).clp = s.clp := rfl
@[simp] theorem modifyBench_free (f : Bench → Bench) : (modifyBench f s).free = s.free := rfl
@[simp] theorem modifyBench_pending (f : Bench → Bench) : (modifyBench f s).pending = s.pending := rfl

/-! ## serveBench -/

@[simp] theorem serveBench_clock : (serveBench s).clock = s.clock := rfl
@[simp] theorem serveBench_mlr : (serveBench s).mlr = s.mlr := rfl
@[simp] theorem serveBench_sq : (serveBench s).sq = s.sq := rfl
@[simp] theorem serveBench_pat : (serveBench s).pat = s.pat := rfl
@[simp] theorem serveBench_cc : (serveBench s).cc = s.cc := rfl
@[simp] theorem serveBench_ss : (serveBench s).ss = s.ss := rfl
@[simp] theorem serveBench_lt : (serveBench s).lt = s.lt := rfl
@[simp] theorem serveBench_gl : (serveBench s).gl = s.gl := rfl
@[simp] theorem serveBench_te : (serveBench s).te = { s.te with bench := s.te.bench.map fun b => { b with sampling := true } } := rfl
@[simp] theorem serveBench_oq : (serveBench s).oq = s.oq := rfl
@[simp] theorem serveBench_os : (serveBench s).os = s.os := rfl
@[simp] theorem serveBench_sm : (serveBench s).sm = s.sm := rfl
@[simp] theorem serveBench_clp : (serveBench s).clp = s.clp := rfl
@[simp] theorem serveBench_free : (serveBench s).free = s.free := rfl
@[simp] theorem serveBench_pending : (serveBench s).pending = s.pending := rfl

/-! ## modifyEntry -/

@[simp] theorem modifyEntry_clock (i : Fin 8) (f : PlaneEntry → PlaneEntry) : (modifyEntry i f s).clock = s.clock := rfl
@[simp] theorem modifyEntry_mlr (i : Fin 8) (f : PlaneEntry → PlaneEntry) : (modifyEntry i f s).mlr = s.mlr := rfl
@[simp] theorem modifyEntry_sq (i : Fin 8) (f : PlaneEntry → PlaneEntry) : (modifyEntry i f s).sq = s.sq := rfl
@[simp] theorem modifyEntry_pat (i : Fin 8) (f : PlaneEntry → PlaneEntry) : (modifyEntry i f s).pat = s.pat.set i.val (f s.pat[i.val]) := rfl
@[simp] theorem modifyEntry_cc (i : Fin 8) (f : PlaneEntry → PlaneEntry) : (modifyEntry i f s).cc = s.cc := rfl
@[simp] theorem modifyEntry_ss (i : Fin 8) (f : PlaneEntry → PlaneEntry) : (modifyEntry i f s).ss = s.ss := rfl
@[simp] theorem modifyEntry_lt (i : Fin 8) (f : PlaneEntry → PlaneEntry) : (modifyEntry i f s).lt = s.lt := rfl
@[simp] theorem modifyEntry_gl (i : Fin 8) (f : PlaneEntry → PlaneEntry) : (modifyEntry i f s).gl = s.gl := rfl
@[simp] theorem modifyEntry_te (i : Fin 8) (f : PlaneEntry → PlaneEntry) : (modifyEntry i f s).te = s.te := rfl
@[simp] theorem modifyEntry_oq (i : Fin 8) (f : PlaneEntry → PlaneEntry) : (modifyEntry i f s).oq = s.oq := rfl
@[simp] theorem modifyEntry_os (i : Fin 8) (f : PlaneEntry → PlaneEntry) : (modifyEntry i f s).os = s.os := rfl
@[simp] theorem modifyEntry_sm (i : Fin 8) (f : PlaneEntry → PlaneEntry) : (modifyEntry i f s).sm = s.sm := rfl
@[simp] theorem modifyEntry_clp (i : Fin 8) (f : PlaneEntry → PlaneEntry) : (modifyEntry i f s).clp = s.clp := rfl
@[simp] theorem modifyEntry_free (i : Fin 8) (f : PlaneEntry → PlaneEntry) : (modifyEntry i f s).free = s.free := rfl
@[simp] theorem modifyEntry_pending (i : Fin 8) (f : PlaneEntry → PlaneEntry) : (modifyEntry i f s).pending = s.pending := rfl

/-! ## modifySheet -/

@[simp] theorem modifySheet_clock (n : Fin 6) (f : Sheet → Sheet) : (modifySheet n f s).clock = s.clock := rfl
@[simp] theorem modifySheet_mlr (n : Fin 6) (f : Sheet → Sheet) : (modifySheet n f s).mlr = s.mlr := rfl
@[simp] theorem modifySheet_sq (n : Fin 6) (f : Sheet → Sheet) : (modifySheet n f s).sq = s.sq := rfl
@[simp] theorem modifySheet_pat (n : Fin 6) (f : Sheet → Sheet) : (modifySheet n f s).pat = s.pat := rfl
@[simp] theorem modifySheet_cc (n : Fin 6) (f : Sheet → Sheet) : (modifySheet n f s).cc = s.cc := rfl
@[simp] theorem modifySheet_ss (n : Fin 6) (f : Sheet → Sheet) : (modifySheet n f s).ss = s.ss.set n.val (f s.ss[n.val]) := rfl
@[simp] theorem modifySheet_lt (n : Fin 6) (f : Sheet → Sheet) : (modifySheet n f s).lt = s.lt := rfl
@[simp] theorem modifySheet_gl (n : Fin 6) (f : Sheet → Sheet) : (modifySheet n f s).gl = s.gl := rfl
@[simp] theorem modifySheet_te (n : Fin 6) (f : Sheet → Sheet) : (modifySheet n f s).te = s.te := rfl
@[simp] theorem modifySheet_oq (n : Fin 6) (f : Sheet → Sheet) : (modifySheet n f s).oq = s.oq := rfl
@[simp] theorem modifySheet_os (n : Fin 6) (f : Sheet → Sheet) : (modifySheet n f s).os = s.os := rfl
@[simp] theorem modifySheet_sm (n : Fin 6) (f : Sheet → Sheet) : (modifySheet n f s).sm = s.sm := rfl
@[simp] theorem modifySheet_clp (n : Fin 6) (f : Sheet → Sheet) : (modifySheet n f s).clp = s.clp := rfl
@[simp] theorem modifySheet_free (n : Fin 6) (f : Sheet → Sheet) : (modifySheet n f s).free = s.free := rfl
@[simp] theorem modifySheet_pending (n : Fin 6) (f : Sheet → Sheet) : (modifySheet n f s).pending = s.pending := rfl

/-! ## setBody -/

@[simp] theorem setBody_clock (n : Fin 6) (b : SheetBody) : (setBody n b s).clock = s.clock := rfl
@[simp] theorem setBody_mlr (n : Fin 6) (b : SheetBody) : (setBody n b s).mlr = s.mlr := rfl
@[simp] theorem setBody_sq (n : Fin 6) (b : SheetBody) : (setBody n b s).sq = s.sq := rfl
@[simp] theorem setBody_pat (n : Fin 6) (b : SheetBody) : (setBody n b s).pat = s.pat := rfl
@[simp] theorem setBody_cc (n : Fin 6) (b : SheetBody) : (setBody n b s).cc = s.cc := rfl
@[simp] theorem setBody_ss (n : Fin 6) (b : SheetBody) : (setBody n b s).ss = s.ss.set n.val { s.ss[n.val] with body := b } := rfl
@[simp] theorem setBody_lt (n : Fin 6) (b : SheetBody) : (setBody n b s).lt = s.lt := rfl
@[simp] theorem setBody_gl (n : Fin 6) (b : SheetBody) : (setBody n b s).gl = s.gl := rfl
@[simp] theorem setBody_te (n : Fin 6) (b : SheetBody) : (setBody n b s).te = s.te := rfl
@[simp] theorem setBody_oq (n : Fin 6) (b : SheetBody) : (setBody n b s).oq = s.oq := rfl
@[simp] theorem setBody_os (n : Fin 6) (b : SheetBody) : (setBody n b s).os = s.os := rfl
@[simp] theorem setBody_sm (n : Fin 6) (b : SheetBody) : (setBody n b s).sm = s.sm := rfl
@[simp] theorem setBody_clp (n : Fin 6) (b : SheetBody) : (setBody n b s).clp = s.clp := rfl
@[simp] theorem setBody_free (n : Fin 6) (b : SheetBody) : (setBody n b s).free = s.free := rfl
@[simp] theorem setBody_pending (n : Fin 6) (b : SheetBody) : (setBody n b s).pending = s.pending := rfl

/-! ## setSlot -/

@[simp] theorem setSlot_clock (x : Option Strike) : (setSlot x s).clock = s.clock := rfl
@[simp] theorem setSlot_mlr (x : Option Strike) : (setSlot x s).mlr = { s.mlr with slot := x } := rfl
@[simp] theorem setSlot_sq (x : Option Strike) : (setSlot x s).sq = s.sq := rfl
@[simp] theorem setSlot_pat (x : Option Strike) : (setSlot x s).pat = s.pat := rfl
@[simp] theorem setSlot_cc (x : Option Strike) : (setSlot x s).cc = s.cc := rfl
@[simp] theorem setSlot_ss (x : Option Strike) : (setSlot x s).ss = s.ss := rfl
@[simp] theorem setSlot_lt (x : Option Strike) : (setSlot x s).lt = s.lt := rfl
@[simp] theorem setSlot_gl (x : Option Strike) : (setSlot x s).gl = s.gl := rfl
@[simp] theorem setSlot_te (x : Option Strike) : (setSlot x s).te = s.te := rfl
@[simp] theorem setSlot_oq (x : Option Strike) : (setSlot x s).oq = s.oq := rfl
@[simp] theorem setSlot_os (x : Option Strike) : (setSlot x s).os = s.os := rfl
@[simp] theorem setSlot_sm (x : Option Strike) : (setSlot x s).sm = s.sm := rfl
@[simp] theorem setSlot_clp (x : Option Strike) : (setSlot x s).clp = s.clp := rfl
@[simp] theorem setSlot_free (x : Option Strike) : (setSlot x s).free = s.free := rfl
@[simp] theorem setSlot_pending (x : Option Strike) : (setSlot x s).pending = s.pending := rfl

/-! ## setMastRx -/

@[simp] theorem setMastRx_clock (rx : LineRx) : (setMastRx rx s).clock = s.clock := rfl
@[simp] theorem setMastRx_mlr (rx : LineRx) : (setMastRx rx s).mlr = { s.mlr with rx := rx } := rfl
@[simp] theorem setMastRx_sq (rx : LineRx) : (setMastRx rx s).sq = s.sq := rfl
@[simp] theorem setMastRx_pat (rx : LineRx) : (setMastRx rx s).pat = s.pat := rfl
@[simp] theorem setMastRx_cc (rx : LineRx) : (setMastRx rx s).cc = s.cc := rfl
@[simp] theorem setMastRx_ss (rx : LineRx) : (setMastRx rx s).ss = s.ss := rfl
@[simp] theorem setMastRx_lt (rx : LineRx) : (setMastRx rx s).lt = s.lt := rfl
@[simp] theorem setMastRx_gl (rx : LineRx) : (setMastRx rx s).gl = s.gl := rfl
@[simp] theorem setMastRx_te (rx : LineRx) : (setMastRx rx s).te = s.te := rfl
@[simp] theorem setMastRx_oq (rx : LineRx) : (setMastRx rx s).oq = s.oq := rfl
@[simp] theorem setMastRx_os (rx : LineRx) : (setMastRx rx s).os = s.os := rfl
@[simp] theorem setMastRx_sm (rx : LineRx) : (setMastRx rx s).sm = s.sm := rfl
@[simp] theorem setMastRx_clp (rx : LineRx) : (setMastRx rx s).clp = s.clp := rfl
@[simp] theorem setMastRx_free (rx : LineRx) : (setMastRx rx s).free = s.free := rfl
@[simp] theorem setMastRx_pending (rx : LineRx) : (setMastRx rx s).pending = s.pending := rfl

/-! ## setCabRx -/

@[simp] theorem setCabRx_clock (rx : LineRx) : (setCabRx rx s).clock = s.clock := rfl
@[simp] theorem setCabRx_mlr (rx : LineRx) : (setCabRx rx s).mlr = s.mlr := rfl
@[simp] theorem setCabRx_sq (rx : LineRx) : (setCabRx rx s).sq = s.sq := rfl
@[simp] theorem setCabRx_pat (rx : LineRx) : (setCabRx rx s).pat = s.pat := rfl
@[simp] theorem setCabRx_cc (rx : LineRx) : (setCabRx rx s).cc = s.cc := rfl
@[simp] theorem setCabRx_ss (rx : LineRx) : (setCabRx rx s).ss = s.ss := rfl
@[simp] theorem setCabRx_lt (rx : LineRx) : (setCabRx rx s).lt = s.lt := rfl
@[simp] theorem setCabRx_gl (rx : LineRx) : (setCabRx rx s).gl = s.gl := rfl
@[simp] theorem setCabRx_te (rx : LineRx) : (setCabRx rx s).te = s.te := rfl
@[simp] theorem setCabRx_oq (rx : LineRx) : (setCabRx rx s).oq = s.oq := rfl
@[simp] theorem setCabRx_os (rx : LineRx) : (setCabRx rx s).os = s.os := rfl
@[simp] theorem setCabRx_sm (rx : LineRx) : (setCabRx rx s).sm = s.sm := rfl
@[simp] theorem setCabRx_clp (rx : LineRx) : (setCabRx rx s).clp = { s.clp with rx := rx } := rfl
@[simp] theorem setCabRx_free (rx : LineRx) : (setCabRx rx s).free = s.free := rfl
@[simp] theorem setCabRx_pending (rx : LineRx) : (setCabRx rx s).pending = s.pending := rfl

/-! ## holdReceiver -/

@[simp] theorem holdReceiver_clock : (holdReceiver s).clock = s.clock := rfl
@[simp] theorem holdReceiver_mlr : (holdReceiver s).mlr = s.mlr := rfl
@[simp] theorem holdReceiver_sq : (holdReceiver s).sq = s.sq := rfl
@[simp] theorem holdReceiver_pat : (holdReceiver s).pat = s.pat := rfl
@[simp] theorem holdReceiver_cc : (holdReceiver s).cc = s.cc := rfl
@[simp] theorem holdReceiver_ss : (holdReceiver s).ss = s.ss := rfl
@[simp] theorem holdReceiver_lt : (holdReceiver s).lt = s.lt := rfl
@[simp] theorem holdReceiver_gl : (holdReceiver s).gl = s.gl := rfl
@[simp] theorem holdReceiver_te : (holdReceiver s).te = s.te := rfl
@[simp] theorem holdReceiver_oq : (holdReceiver s).oq = s.oq := rfl
@[simp] theorem holdReceiver_os : (holdReceiver s).os = s.os := rfl
@[simp] theorem holdReceiver_sm : (holdReceiver s).sm = s.sm := rfl
@[simp] theorem holdReceiver_clp : (holdReceiver s).clp = { s.clp with held := true } := rfl
@[simp] theorem holdReceiver_free : (holdReceiver s).free = s.free := rfl
@[simp] theorem holdReceiver_pending : (holdReceiver s).pending = s.pending := rfl

/-! ## putInHand -/

@[simp] theorem putInHand_clock (r : Received) : (putInHand r s).clock = s.clock := rfl
@[simp] theorem putInHand_mlr (r : Received) : (putInHand r s).mlr = s.mlr := rfl
@[simp] theorem putInHand_sq (r : Received) : (putInHand r s).sq = s.sq := rfl
@[simp] theorem putInHand_pat (r : Received) : (putInHand r s).pat = s.pat := rfl
@[simp] theorem putInHand_cc (r : Received) : (putInHand r s).cc = s.cc := rfl
@[simp] theorem putInHand_ss (r : Received) : (putInHand r s).ss = s.ss := rfl
@[simp] theorem putInHand_lt (r : Received) : (putInHand r s).lt = s.lt := rfl
@[simp] theorem putInHand_gl (r : Received) : (putInHand r s).gl = s.gl := rfl
@[simp] theorem putInHand_te (r : Received) : (putInHand r s).te = s.te := rfl
@[simp] theorem putInHand_oq (r : Received) : (putInHand r s).oq = s.oq := rfl
@[simp] theorem putInHand_os (r : Received) : (putInHand r s).os = s.os := rfl
@[simp] theorem putInHand_sm (r : Received) : (putInHand r s).sm = s.sm := rfl
@[simp] theorem putInHand_clp (r : Received) : (putInHand r s).clp = { s.clp with inHand := s.clp.inHand ++ [r] } := rfl
@[simp] theorem putInHand_free (r : Received) : (putInHand r s).free = s.free := rfl
@[simp] theorem putInHand_pending (r : Received) : (putInHand r s).pending = s.pending := rfl

/-! ## takeInHand -/

@[simp] theorem takeInHand_clock (broadcast : Bool) (kind tag : Nat) : (takeInHand broadcast kind tag s).clock = s.clock := rfl
@[simp] theorem takeInHand_mlr (broadcast : Bool) (kind tag : Nat) : (takeInHand broadcast kind tag s).mlr = s.mlr := rfl
@[simp] theorem takeInHand_sq (broadcast : Bool) (kind tag : Nat) : (takeInHand broadcast kind tag s).sq = s.sq := rfl
@[simp] theorem takeInHand_pat (broadcast : Bool) (kind tag : Nat) : (takeInHand broadcast kind tag s).pat = s.pat := rfl
@[simp] theorem takeInHand_cc (broadcast : Bool) (kind tag : Nat) : (takeInHand broadcast kind tag s).cc = s.cc := rfl
@[simp] theorem takeInHand_ss (broadcast : Bool) (kind tag : Nat) : (takeInHand broadcast kind tag s).ss = s.ss := rfl
@[simp] theorem takeInHand_lt (broadcast : Bool) (kind tag : Nat) : (takeInHand broadcast kind tag s).lt = s.lt := rfl
@[simp] theorem takeInHand_gl (broadcast : Bool) (kind tag : Nat) : (takeInHand broadcast kind tag s).gl = s.gl := rfl
@[simp] theorem takeInHand_te (broadcast : Bool) (kind tag : Nat) : (takeInHand broadcast kind tag s).te = s.te := rfl
@[simp] theorem takeInHand_oq (broadcast : Bool) (kind tag : Nat) : (takeInHand broadcast kind tag s).oq = s.oq := rfl
@[simp] theorem takeInHand_os (broadcast : Bool) (kind tag : Nat) : (takeInHand broadcast kind tag s).os = s.os := rfl
@[simp] theorem takeInHand_sm (broadcast : Bool) (kind tag : Nat) : (takeInHand broadcast kind tag s).sm = s.sm := rfl
@[simp] theorem takeInHand_clp (broadcast : Bool) (kind tag : Nat) : (takeInHand broadcast kind tag s).clp = { s.clp with inHand := dropTaken broadcast kind tag s.clp.inHand } := rfl
@[simp] theorem takeInHand_free (broadcast : Bool) (kind tag : Nat) : (takeInHand broadcast kind tag s).free = s.free := rfl
@[simp] theorem takeInHand_pending (broadcast : Bool) (kind tag : Nat) : (takeInHand broadcast kind tag s).pending = s.pending := rfl

/-! ## sendReply -/

@[simp] theorem sendReply_clock (kind tag : Nat) (result : ResultCode) (contents : Contents) : (sendReply kind tag result contents s).clock = s.clock := rfl
@[simp] theorem sendReply_mlr (kind tag : Nat) (result : ResultCode) (contents : Contents) : (sendReply kind tag result contents s).mlr = s.mlr := rfl
@[simp] theorem sendReply_sq (kind tag : Nat) (result : ResultCode) (contents : Contents) : (sendReply kind tag result contents s).sq = s.sq := rfl
@[simp] theorem sendReply_pat (kind tag : Nat) (result : ResultCode) (contents : Contents) : (sendReply kind tag result contents s).pat = s.pat := rfl
@[simp] theorem sendReply_cc (kind tag : Nat) (result : ResultCode) (contents : Contents) : (sendReply kind tag result contents s).cc = s.cc := rfl
@[simp] theorem sendReply_ss (kind tag : Nat) (result : ResultCode) (contents : Contents) : (sendReply kind tag result contents s).ss = s.ss := rfl
@[simp] theorem sendReply_lt (kind tag : Nat) (result : ResultCode) (contents : Contents) : (sendReply kind tag result contents s).lt = s.lt := rfl
@[simp] theorem sendReply_gl (kind tag : Nat) (result : ResultCode) (contents : Contents) : (sendReply kind tag result contents s).gl = s.gl := rfl
@[simp] theorem sendReply_te (kind tag : Nat) (result : ResultCode) (contents : Contents) : (sendReply kind tag result contents s).te = s.te := rfl
@[simp] theorem sendReply_oq (kind tag : Nat) (result : ResultCode) (contents : Contents) : (sendReply kind tag result contents s).oq = s.oq := rfl
@[simp] theorem sendReply_os (kind tag : Nat) (result : ResultCode) (contents : Contents) : (sendReply kind tag result contents s).os = s.os := rfl
@[simp] theorem sendReply_sm (kind tag : Nat) (result : ResultCode) (contents : Contents) : (sendReply kind tag result contents s).sm = s.sm := rfl
@[simp] theorem sendReply_clp (kind tag : Nat) (result : ResultCode) (contents : Contents) : (sendReply kind tag result contents s).clp = { s.clp with
      reply := some ⟨kind, tag, result, contents⟩, held := true, rx := .hunting } := rfl
@[simp] theorem sendReply_free (kind tag : Nat) (result : ResultCode) (contents : Contents) : (sendReply kind tag result contents s).free = s.free := rfl
@[simp] theorem sendReply_pending (kind tag : Nat) (result : ResultCode) (contents : Contents) : (sendReply kind tag result contents s).pending = s.pending := rfl

/-! ## takeAndReply -/

@[simp] theorem takeAndReply_clock (kind tag : Nat) (result : ResultCode) (contents : Contents) : (takeAndReply kind tag result contents s).clock = s.clock := rfl
@[simp] theorem takeAndReply_mlr (kind tag : Nat) (result : ResultCode) (contents : Contents) : (takeAndReply kind tag result contents s).mlr = s.mlr := rfl
@[simp] theorem takeAndReply_sq (kind tag : Nat) (result : ResultCode) (contents : Contents) : (takeAndReply kind tag result contents s).sq = s.sq := rfl
@[simp] theorem takeAndReply_pat (kind tag : Nat) (result : ResultCode) (contents : Contents) : (takeAndReply kind tag result contents s).pat = s.pat := rfl
@[simp] theorem takeAndReply_cc (kind tag : Nat) (result : ResultCode) (contents : Contents) : (takeAndReply kind tag result contents s).cc = s.cc := rfl
@[simp] theorem takeAndReply_ss (kind tag : Nat) (result : ResultCode) (contents : Contents) : (takeAndReply kind tag result contents s).ss = s.ss := rfl
@[simp] theorem takeAndReply_lt (kind tag : Nat) (result : ResultCode) (contents : Contents) : (takeAndReply kind tag result contents s).lt = s.lt := rfl
@[simp] theorem takeAndReply_gl (kind tag : Nat) (result : ResultCode) (contents : Contents) : (takeAndReply kind tag result contents s).gl = s.gl := rfl
@[simp] theorem takeAndReply_te (kind tag : Nat) (result : ResultCode) (contents : Contents) : (takeAndReply kind tag result contents s).te = s.te := rfl
@[simp] theorem takeAndReply_oq (kind tag : Nat) (result : ResultCode) (contents : Contents) : (takeAndReply kind tag result contents s).oq = s.oq := rfl
@[simp] theorem takeAndReply_os (kind tag : Nat) (result : ResultCode) (contents : Contents) : (takeAndReply kind tag result contents s).os = s.os := rfl
@[simp] theorem takeAndReply_sm (kind tag : Nat) (result : ResultCode) (contents : Contents) : (takeAndReply kind tag result contents s).sm = s.sm := rfl
@[simp] theorem takeAndReply_clp (kind tag : Nat) (result : ResultCode) (contents : Contents) : (takeAndReply kind tag result contents s).clp = { s.clp with
      reply := some ⟨kind, tag, result, contents⟩, held := true, rx := .hunting,
      inHand := dropTaken false kind tag s.clp.inHand } := rfl
@[simp] theorem takeAndReply_free (kind tag : Nat) (result : ResultCode) (contents : Contents) : (takeAndReply kind tag result contents s).free = s.free := rfl
@[simp] theorem takeAndReply_pending (kind tag : Nat) (result : ResultCode) (contents : Contents) : (takeAndReply kind tag result contents s).pending = s.pending := rfl

/-! ## answer -/

@[simp] theorem answer_clock (q : Request) (tag : Nat) (result : ResultCode) (contents : Contents) : (answer q tag result contents s).clock = s.clock := rfl
@[simp] theorem answer_mlr (q : Request) (tag : Nat) (result : ResultCode) (contents : Contents) : (answer q tag result contents s).mlr = s.mlr := rfl
@[simp] theorem answer_sq (q : Request) (tag : Nat) (result : ResultCode) (contents : Contents) : (answer q tag result contents s).sq = s.sq := rfl
@[simp] theorem answer_pat (q : Request) (tag : Nat) (result : ResultCode) (contents : Contents) : (answer q tag result contents s).pat = s.pat := rfl
@[simp] theorem answer_cc (q : Request) (tag : Nat) (result : ResultCode) (contents : Contents) : (answer q tag result contents s).cc = s.cc := rfl
@[simp] theorem answer_ss (q : Request) (tag : Nat) (result : ResultCode) (contents : Contents) : (answer q tag result contents s).ss = s.ss := rfl
@[simp] theorem answer_lt (q : Request) (tag : Nat) (result : ResultCode) (contents : Contents) : (answer q tag result contents s).lt = s.lt := rfl
@[simp] theorem answer_gl (q : Request) (tag : Nat) (result : ResultCode) (contents : Contents) : (answer q tag result contents s).gl = s.gl := rfl
@[simp] theorem answer_te (q : Request) (tag : Nat) (result : ResultCode) (contents : Contents) : (answer q tag result contents s).te = s.te := rfl
@[simp] theorem answer_oq (q : Request) (tag : Nat) (result : ResultCode) (contents : Contents) : (answer q tag result contents s).oq = s.oq := rfl
@[simp] theorem answer_os (q : Request) (tag : Nat) (result : ResultCode) (contents : Contents) : (answer q tag result contents s).os = s.os := rfl
@[simp] theorem answer_sm (q : Request) (tag : Nat) (result : ResultCode) (contents : Contents) : (answer q tag result contents s).sm = s.sm := rfl
@[simp] theorem answer_clp (q : Request) (tag : Nat) (result : ResultCode) (contents : Contents) : (answer q tag result contents s).clp = { s.clp with
      reply := some ⟨requestCode q, tag, result, contents⟩, held := true, rx := .hunting,
      inHand := dropTaken false (requestCode q) tag s.clp.inHand } := rfl
@[simp] theorem answer_free (q : Request) (tag : Nat) (result : ResultCode) (contents : Contents) : (answer q tag result contents s).free = s.free := rfl
@[simp] theorem answer_pending (q : Request) (tag : Nat) (result : ResultCode) (contents : Contents) : (answer q tag result contents s).pending = s.pending := rfl

/-! ## refuse -/

@[simp] theorem refuse_clock (q : Request) (tag : Nat) (result : ResultCode) : (refuse q tag result s).clock = s.clock := rfl
@[simp] theorem refuse_mlr (q : Request) (tag : Nat) (result : ResultCode) : (refuse q tag result s).mlr = s.mlr := rfl
@[simp] theorem refuse_sq (q : Request) (tag : Nat) (result : ResultCode) : (refuse q tag result s).sq = s.sq := rfl
@[simp] theorem refuse_pat (q : Request) (tag : Nat) (result : ResultCode) : (refuse q tag result s).pat = s.pat := rfl
@[simp] theorem refuse_cc (q : Request) (tag : Nat) (result : ResultCode) : (refuse q tag result s).cc = s.cc := rfl
@[simp] theorem refuse_ss (q : Request) (tag : Nat) (result : ResultCode) : (refuse q tag result s).ss = s.ss := rfl
@[simp] theorem refuse_lt (q : Request) (tag : Nat) (result : ResultCode) : (refuse q tag result s).lt = s.lt := rfl
@[simp] theorem refuse_gl (q : Request) (tag : Nat) (result : ResultCode) : (refuse q tag result s).gl = s.gl := rfl
@[simp] theorem refuse_te (q : Request) (tag : Nat) (result : ResultCode) : (refuse q tag result s).te = s.te := rfl
@[simp] theorem refuse_oq (q : Request) (tag : Nat) (result : ResultCode) : (refuse q tag result s).oq = s.oq := rfl
@[simp] theorem refuse_os (q : Request) (tag : Nat) (result : ResultCode) : (refuse q tag result s).os = s.os := rfl
@[simp] theorem refuse_sm (q : Request) (tag : Nat) (result : ResultCode) : (refuse q tag result s).sm = s.sm := rfl
@[simp] theorem refuse_clp (q : Request) (tag : Nat) (result : ResultCode) : (refuse q tag result s).clp = { s.clp with
      reply := some ⟨requestCode q, tag, result, .none⟩, held := true, rx := .hunting,
      inHand := dropTaken false (requestCode q) tag s.clp.inHand } := rfl
@[simp] theorem refuse_free (q : Request) (tag : Nat) (result : ResultCode) : (refuse q tag result s).free = s.free := rfl
@[simp] theorem refuse_pending (q : Request) (tag : Nat) (result : ResultCode) : (refuse q tag result s).pending = s.pending := rfl

/-! ## tickClock -/

@[simp] theorem tickClock_clock : (tickClock s).clock = s.clock + 1 := rfl
@[simp] theorem tickClock_mlr : (tickClock s).mlr = s.mlr := rfl
@[simp] theorem tickClock_sq : (tickClock s).sq = s.sq := rfl
@[simp] theorem tickClock_pat : (tickClock s).pat = s.pat := rfl
@[simp] theorem tickClock_cc : (tickClock s).cc = s.cc := rfl
@[simp] theorem tickClock_ss : (tickClock s).ss = s.ss := rfl
@[simp] theorem tickClock_lt : (tickClock s).lt = s.lt := rfl
@[simp] theorem tickClock_gl : (tickClock s).gl = s.gl := rfl
@[simp] theorem tickClock_te : (tickClock s).te = s.te := rfl
@[simp] theorem tickClock_oq : (tickClock s).oq = s.oq := rfl
@[simp] theorem tickClock_os : (tickClock s).os = s.os := rfl
@[simp] theorem tickClock_sm : (tickClock s).sm = s.sm := rfl
@[simp] theorem tickClock_clp : (tickClock s).clp = s.clp := rfl
@[simp] theorem tickClock_free : (tickClock s).free = s.free := rfl
@[simp] theorem tickClock_pending : (tickClock s).pending = s.pending := rfl

/-! ## withCounters -/

@[simp] theorem withCounters_clock (f : Counters → Counters) : (withCounters f s).clock = s.clock := rfl
@[simp] theorem withCounters_mlr (f : Counters → Counters) : (withCounters f s).mlr = s.mlr := rfl
@[simp] theorem withCounters_sq (f : Counters → Counters) : (withCounters f s).sq = s.sq := rfl
@[simp] theorem withCounters_pat (f : Counters → Counters) : (withCounters f s).pat = s.pat := rfl
@[simp] theorem withCounters_cc (f : Counters → Counters) : (withCounters f s).cc = s.cc := rfl
@[simp] theorem withCounters_ss (f : Counters → Counters) : (withCounters f s).ss = s.ss := rfl
@[simp] theorem withCounters_lt (f : Counters → Counters) : (withCounters f s).lt = s.lt := rfl
@[simp] theorem withCounters_gl (f : Counters → Counters) : (withCounters f s).gl = s.gl := rfl
@[simp] theorem withCounters_te (f : Counters → Counters) : (withCounters f s).te = s.te := rfl
@[simp] theorem withCounters_oq (f : Counters → Counters) : (withCounters f s).oq = s.oq := rfl
@[simp] theorem withCounters_os (f : Counters → Counters) : (withCounters f s).os = s.os := rfl
@[simp] theorem withCounters_sm (f : Counters → Counters) : (withCounters f s).sm = s.sm := rfl
@[simp] theorem withCounters_clp (f : Counters → Counters) : (withCounters f s).clp = { s.clp with counters := f s.clp.counters } := rfl
@[simp] theorem withCounters_free (f : Counters → Counters) : (withCounters f s).free = s.free := rfl
@[simp] theorem withCounters_pending (f : Counters → Counters) : (withCounters f s).pending = s.pending := rfl

/-! ## fire -/

@[simp] theorem fire_clock (e : Event) : (fire e s).clock = s.clock := rfl
@[simp] theorem fire_mlr (e : Event) : (fire e s).mlr = s.mlr := rfl
@[simp] theorem fire_sq (e : Event) : (fire e s).sq = s.sq := rfl
@[simp] theorem fire_pat (e : Event) : (fire e s).pat = s.pat := rfl
@[simp] theorem fire_cc (e : Event) : (fire e s).cc = s.cc := rfl
@[simp] theorem fire_ss (e : Event) : (fire e s).ss = s.ss := rfl
@[simp] theorem fire_lt (e : Event) : (fire e s).lt = s.lt := rfl
@[simp] theorem fire_gl (e : Event) : (fire e s).gl = s.gl := rfl
@[simp] theorem fire_te (e : Event) : (fire e s).te = s.te := rfl
@[simp] theorem fire_oq (e : Event) : (fire e s).oq = s.oq := rfl
@[simp] theorem fire_os (e : Event) : (fire e s).os = s.os := rfl
@[simp] theorem fire_sm (e : Event) : (fire e s).sm = s.sm := rfl
@[simp] theorem fire_clp (e : Event) : (fire e s).clp = fireIn e s.clock (chainage s) s.clp := rfl
@[simp] theorem fire_free (e : Event) : (fire e s).free = s.free := rfl
@[simp] theorem fire_pending (e : Event) : (fire e s).pending = s.pending := rfl

/-! ## formPermit -/

@[simp] theorem formPermit_clock : (formPermit s).clock = s.clock := rfl
@[simp] theorem formPermit_mlr : (formPermit s).mlr = s.mlr := rfl
@[simp] theorem formPermit_sq : (formPermit s).sq = s.sq := rfl
@[simp] theorem formPermit_pat : (formPermit s).pat = s.pat := rfl
@[simp] theorem formPermit_cc : (formPermit s).cc = s.cc := rfl
@[simp] theorem formPermit_ss : (formPermit s).ss = s.ss := rfl
@[simp] theorem formPermit_lt : (formPermit s).lt = s.lt := rfl
@[simp] theorem formPermit_gl : (formPermit s).gl = s.gl := rfl
@[simp] theorem formPermit_te : (formPermit s).te = s.te := rfl
@[simp] theorem formPermit_oq : (formPermit s).oq = s.oq := rfl
@[simp] theorem formPermit_os : (formPermit s).os = { s.os with permit := permitHolds s, pin := permitHolds s && s.sm.isNone } := rfl
@[simp] theorem formPermit_sm : (formPermit s).sm = s.sm := rfl
@[simp] theorem formPermit_clp : (formPermit s).clp = s.clp := rfl
@[simp] theorem formPermit_free : (formPermit s).free = s.free := rfl
@[simp] theorem formPermit_pending : (formPermit s).pending = s.pending := rfl

/-! ## handOn -/

@[simp] theorem handOn_clock (v : Int) : (handOn v s).clock = s.clock := rfl
@[simp] theorem handOn_mlr (v : Int) : (handOn v s).mlr = s.mlr := rfl
@[simp] theorem handOn_sq (v : Int) : (handOn v s).sq = s.sq := rfl
@[simp] theorem handOn_pat (v : Int) : (handOn v s).pat = s.pat := rfl
@[simp] theorem handOn_cc (v : Int) : (handOn v s).cc = s.cc := rfl
@[simp] theorem handOn_ss (v : Int) : (handOn v s).ss = s.ss := rfl
@[simp] theorem handOn_lt (v : Int) : (handOn v s).lt = s.lt := rfl
@[simp] theorem handOn_gl (v : Int) : (handOn v s).gl = { s.gl with v := v } := rfl
@[simp] theorem handOn_te (v : Int) : (handOn v s).te = s.te := rfl
@[simp] theorem handOn_oq (v : Int) : (handOn v s).oq = s.oq := rfl
@[simp] theorem handOn_os (v : Int) : (handOn v s).os = if dutiesHeld s then setDuties 0 0 s.os
      else setDuties (raiseDutyFor s.clp.consts v) (lowerDutyFor s.clp.consts v) s.os := rfl
@[simp] theorem handOn_sm (v : Int) : (handOn v s).sm = s.sm.map fun m => { m with drive := v } := rfl
@[simp] theorem handOn_clp (v : Int) : (handOn v s).clp = s.clp := rfl
@[simp] theorem handOn_free (v : Int) : (handOn v s).free = s.free := rfl
@[simp] theorem handOn_pending (v : Int) : (handOn v s).pending = s.pending := rfl

/-! ## setAccumulator -/

@[simp] theorem setAccumulator_clock (acc : Nat) : (setAccumulator acc s).clock = s.clock := rfl
@[simp] theorem setAccumulator_mlr (acc : Nat) : (setAccumulator acc s).mlr = s.mlr := rfl
@[simp] theorem setAccumulator_sq (acc : Nat) : (setAccumulator acc s).sq = s.sq := rfl
@[simp] theorem setAccumulator_pat (acc : Nat) : (setAccumulator acc s).pat = s.pat := rfl
@[simp] theorem setAccumulator_cc (acc : Nat) : (setAccumulator acc s).cc = { s.cc with acc := acc, limitLatch := false, anchor := acc / 1000 } := rfl
@[simp] theorem setAccumulator_ss (acc : Nat) : (setAccumulator acc s).ss = s.ss := rfl
@[simp] theorem setAccumulator_lt (acc : Nat) : (setAccumulator acc s).lt = s.lt := rfl
@[simp] theorem setAccumulator_gl (acc : Nat) : (setAccumulator acc s).gl = s.gl := rfl
@[simp] theorem setAccumulator_te (acc : Nat) : (setAccumulator acc s).te = s.te := rfl
@[simp] theorem setAccumulator_oq (acc : Nat) : (setAccumulator acc s).oq = s.oq := rfl
@[simp] theorem setAccumulator_os (acc : Nat) : (setAccumulator acc s).os = s.os := rfl
@[simp] theorem setAccumulator_sm (acc : Nat) : (setAccumulator acc s).sm = s.sm := rfl
@[simp] theorem setAccumulator_clp (acc : Nat) : (setAccumulator acc s).clp = s.clp := rfl
@[simp] theorem setAccumulator_free (acc : Nat) : (setAccumulator acc s).free = s.free := rfl
@[simp] theorem setAccumulator_pending (acc : Nat) : (setAccumulator acc s).pending = s.pending := rfl

/-! ## tellSetting -/

@[simp] theorem tellSetting_clock (c : Nat) : (tellSetting c s).clock = s.clock := rfl
@[simp] theorem tellSetting_mlr (c : Nat) : (tellSetting c s).mlr = s.mlr := rfl
@[simp] theorem tellSetting_sq (c : Nat) : (tellSetting c s).sq = s.sq := rfl
@[simp] theorem tellSetting_pat (c : Nat) : (tellSetting c s).pat = s.pat := rfl
@[simp] theorem tellSetting_cc (c : Nat) : (tellSetting c s).cc = s.cc := rfl
@[simp] theorem tellSetting_ss (c : Nat) : (tellSetting c s).ss = s.ss := rfl
@[simp] theorem tellSetting_lt (c : Nat) : (tellSetting c s).lt = s.lt := rfl
@[simp] theorem tellSetting_gl (c : Nat) : (tellSetting c s).gl = { s.gl with loop := s.gl.loop.map fun l => { l with state := loopAtSetting c l.state } } := rfl
@[simp] theorem tellSetting_te (c : Nat) : (tellSetting c s).te = { s.te with tie := s.te.tie.map (tieAtSetting c) } := rfl
@[simp] theorem tellSetting_oq (c : Nat) : (tellSetting c s).oq = { s.oq with ops := s.oq.ops.map (opAtSetting c) } := rfl
@[simp] theorem tellSetting_os (c : Nat) : (tellSetting c s).os = s.os := rfl
@[simp] theorem tellSetting_sm (c : Nat) : (tellSetting c s).sm = s.sm.map fun m => { m with gap := m.gap.map fun g => { g with start := c } } := rfl
@[simp] theorem tellSetting_clp (c : Nat) : (tellSetting c s).clp = s.clp := rfl
@[simp] theorem tellSetting_free (c : Nat) : (tellSetting c s).free = s.free := rfl
@[simp] theorem tellSetting_pending (c : Nat) : (tellSetting c s).pending = s.pending := rfl

/-! ## dropContexts -/

@[simp] theorem dropContexts_clock : (dropContexts s).clock = s.clock := rfl
@[simp] theorem dropContexts_mlr : (dropContexts s).mlr = s.mlr := rfl
@[simp] theorem dropContexts_sq : (dropContexts s).sq = s.sq := rfl
@[simp] theorem dropContexts_pat : (dropContexts s).pat = s.pat := rfl
@[simp] theorem dropContexts_cc : (dropContexts s).cc = { s.cc with chw := none } := rfl
@[simp] theorem dropContexts_ss : (dropContexts s).ss = s.ss := rfl
@[simp] theorem dropContexts_lt : (dropContexts s).lt = none := rfl
@[simp] theorem dropContexts_gl : (dropContexts s).gl = { v := 0, loop := none } := rfl
@[simp] theorem dropContexts_te : (dropContexts s).te = { s.te with bench := none } := rfl
@[simp] theorem dropContexts_oq : (dropContexts s).oq = { s.oq with dwellTimer := none } := rfl
@[simp] theorem dropContexts_sm : (dropContexts s).sm = s.sm.map fun m => { m with drive := 0 } := rfl
@[simp] theorem dropContexts_clp : (dropContexts s).clp = s.clp := rfl
@[simp] theorem dropContexts_free : (dropContexts s).free = s.free := rfl
@[simp] theorem dropContexts_pending : (dropContexts s).pending = s.pending := rfl

/-! ## idleSequencer -/

@[simp] theorem idleSequencer_clock : (idleSequencer s).clock = s.clock := rfl
@[simp] theorem idleSequencer_mlr : (idleSequencer s).mlr = s.mlr := rfl
@[simp] theorem idleSequencer_sq : (idleSequencer s).sq = s.sq := rfl
@[simp] theorem idleSequencer_pat : (idleSequencer s).pat = s.pat := rfl
@[simp] theorem idleSequencer_cc : (idleSequencer s).cc = s.cc := rfl
@[simp] theorem idleSequencer_ss : (idleSequencer s).ss = s.ss := rfl
@[simp] theorem idleSequencer_lt : (idleSequencer s).lt = s.lt := rfl
@[simp] theorem idleSequencer_gl : (idleSequencer s).gl = s.gl := rfl
@[simp] theorem idleSequencer_te : (idleSequencer s).te = s.te := rfl
@[simp] theorem idleSequencer_oq : (idleSequencer s).oq = { s.oq with seq := if s.oq.seq = .faulted then .faulted else .idle } := rfl
@[simp] theorem idleSequencer_os : (idleSequencer s).os = s.os := rfl
@[simp] theorem idleSequencer_sm : (idleSequencer s).sm = s.sm := rfl
@[simp] theorem idleSequencer_clp : (idleSequencer s).clp = s.clp := rfl
@[simp] theorem idleSequencer_free : (idleSequencer s).free = s.free := rfl
@[simp] theorem idleSequencer_pending : (idleSequencer s).pending = s.pending := rfl

/-! ## removeBeam -/

@[simp] theorem removeBeam_clock : (removeBeam s).clock = s.clock := rfl
@[simp] theorem removeBeam_mlr : (removeBeam s).mlr = s.mlr := rfl
@[simp] theorem removeBeam_sq : (removeBeam s).sq = s.sq := rfl
@[simp] theorem removeBeam_pat : (removeBeam s).pat = s.pat := rfl
@[simp] theorem removeBeam_cc : (removeBeam s).cc = s.cc := rfl
@[simp] theorem removeBeam_ss : (removeBeam s).ss = s.ss := rfl
@[simp] theorem removeBeam_lt : (removeBeam s).lt = s.lt := rfl
@[simp] theorem removeBeam_gl : (removeBeam s).gl = s.gl := rfl
@[simp] theorem removeBeam_te : (removeBeam s).te = s.te := rfl
@[simp] theorem removeBeam_oq : (removeBeam s).oq = { s.oq with pause := { s.oq.pause with beam := false } } := rfl
@[simp] theorem removeBeam_os : (removeBeam s).os = s.os := rfl
@[simp] theorem removeBeam_sm : (removeBeam s).sm = s.sm := rfl
@[simp] theorem removeBeam_clp : (removeBeam s).clp = s.clp := rfl
@[simp] theorem removeBeam_free : (removeBeam s).free = s.free := rfl
@[simp] theorem removeBeam_pending : (removeBeam s).pending = s.pending := rfl

/-! ## clearReach -/

@[simp] theorem clearReach_clock : (clearReach s).clock = s.clock := rfl
@[simp] theorem clearReach_mlr : (clearReach s).mlr = s.mlr := rfl
@[simp] theorem clearReach_sq : (clearReach s).sq = s.sq := rfl
@[simp] theorem clearReach_pat : (clearReach s).pat = s.pat := rfl
@[simp] theorem clearReach_cc : (clearReach s).cc = s.cc := rfl
@[simp] theorem clearReach_ss : (clearReach s).ss = s.ss := rfl
@[simp] theorem clearReach_lt : (clearReach s).lt = s.lt := rfl
@[simp] theorem clearReach_gl : (clearReach s).gl = s.gl := rfl
@[simp] theorem clearReach_te : (clearReach s).te = s.te := rfl
@[simp] theorem clearReach_oq : (clearReach s).oq = { s.oq with pause := { s.oq.pause with reach := false } } := rfl
@[simp] theorem clearReach_os : (clearReach s).os = s.os := rfl
@[simp] theorem clearReach_sm : (clearReach s).sm = s.sm := rfl
@[simp] theorem clearReach_clp : (clearReach s).clp = s.clp := rfl
@[simp] theorem clearReach_free : (clearReach s).free = s.free := rfl
@[simp] theorem clearReach_pending : (clearReach s).pending = s.pending := rfl

/-! ## removeResumeWait -/

@[simp] theorem removeResumeWait_clock : (removeResumeWait s).clock = s.clock := rfl
@[simp] theorem removeResumeWait_mlr : (removeResumeWait s).mlr = s.mlr := rfl
@[simp] theorem removeResumeWait_sq : (removeResumeWait s).sq = s.sq := rfl
@[simp] theorem removeResumeWait_pat : (removeResumeWait s).pat = s.pat := rfl
@[simp] theorem removeResumeWait_cc : (removeResumeWait s).cc = s.cc := rfl
@[simp] theorem removeResumeWait_ss : (removeResumeWait s).ss = s.ss := rfl
@[simp] theorem removeResumeWait_lt : (removeResumeWait s).lt = s.lt := rfl
@[simp] theorem removeResumeWait_gl : (removeResumeWait s).gl = s.gl := rfl
@[simp] theorem removeResumeWait_te : (removeResumeWait s).te = s.te := rfl
@[simp] theorem removeResumeWait_oq : (removeResumeWait s).oq = { s.oq with pause := { s.oq.pause with resumeWait := false } } := rfl
@[simp] theorem removeResumeWait_os : (removeResumeWait s).os = s.os := rfl
@[simp] theorem removeResumeWait_sm : (removeResumeWait s).sm = s.sm := rfl
@[simp] theorem removeResumeWait_clp : (removeResumeWait s).clp = s.clp := rfl
@[simp] theorem removeResumeWait_free : (removeResumeWait s).free = s.free := rfl
@[simp] theorem removeResumeWait_pending : (removeResumeWait s).pending = s.pending := rfl

/-! ## clearFlags -/

@[simp] theorem clearFlags_clock (mask : Mask) : (clearFlags mask s).clock = s.clock := rfl
@[simp] theorem clearFlags_mlr (mask : Mask) : (clearFlags mask s).mlr = s.mlr := rfl
@[simp] theorem clearFlags_sq (mask : Mask) : (clearFlags mask s).sq = { s.sq with foreignLatch := s.sq.foreignLatch && !inMask mask lineNumber } := rfl
@[simp] theorem clearFlags_pat (mask : Mask) : (clearFlags mask s).pat = s.pat := rfl
@[simp] theorem clearFlags_cc (mask : Mask) : (clearFlags mask s).cc = s.cc := rfl
@[simp] theorem clearFlags_ss (mask : Mask) : (clearFlags mask s).ss = s.ss := rfl
@[simp] theorem clearFlags_lt (mask : Mask) : (clearFlags mask s).lt = s.lt := rfl
@[simp] theorem clearFlags_gl (mask : Mask) : (clearFlags mask s).gl = s.gl := rfl
@[simp] theorem clearFlags_te (mask : Mask) : (clearFlags mask s).te = s.te := rfl
@[simp] theorem clearFlags_oq (mask : Mask) : (clearFlags mask s).oq = s.oq := rfl
@[simp] theorem clearFlags_os (mask : Mask) : (clearFlags mask s).os = s.os := rfl
@[simp] theorem clearFlags_sm (mask : Mask) : (clearFlags mask s).sm = s.sm := rfl
@[simp] theorem clearFlags_clp (mask : Mask) : (clearFlags mask s).clp = { s.clp with flags := s.clp.flags &&& ~~~mask } := rfl
@[simp] theorem clearFlags_free (mask : Mask) : (clearFlags mask s).free = s.free := rfl
@[simp] theorem clearFlags_pending (mask : Mask) : (clearFlags mask s).pending = s.pending := rfl

/-! ## takeSamples -/

@[simp] theorem takeSamples_clock (r : Readings) : (takeSamples r s).clock = s.clock := rfl
@[simp] theorem takeSamples_mlr (r : Readings) : (takeSamples r s).mlr = s.mlr := rfl
@[simp] theorem takeSamples_sq (r : Readings) : (takeSamples r s).sq = s.sq := rfl
@[simp] theorem takeSamples_pat (r : Readings) : (takeSamples r s).pat = s.pat := rfl
@[simp] theorem takeSamples_cc (r : Readings) : (takeSamples r s).cc = s.cc := rfl
@[simp] theorem takeSamples_ss (r : Readings) : (takeSamples r s).ss = s.ss := rfl
@[simp] theorem takeSamples_lt (r : Readings) : (takeSamples r s).lt = s.lt := rfl
@[simp] theorem takeSamples_gl (r : Readings) : (takeSamples r s).gl = s.gl := rfl
@[simp] theorem takeSamples_te (r : Readings) : (takeSamples r s).te = s.te := rfl
@[simp] theorem takeSamples_oq (r : Readings) : (takeSamples r s).oq = s.oq := rfl
@[simp] theorem takeSamples_os (r : Readings) : (takeSamples r s).os = sampledOutputs r s.os := rfl
@[simp] theorem takeSamples_sm (r : Readings) : (takeSamples r s).sm = s.sm.map fun m => { m with handed := m.stroke } := rfl
@[simp] theorem takeSamples_clp (r : Readings) : (takeSamples r s).clp = s.clp := rfl
@[simp] theorem takeSamples_free (r : Readings) : (takeSamples r s).free = s.free := rfl
@[simp] theorem takeSamples_pending (r : Readings) : (takeSamples r s).pending = s.pending := rfl

/-! ## restPlanes -/

@[simp] theorem restPlanes_clock : (restPlanes s).clock = s.clock := rfl
@[simp] theorem restPlanes_mlr : (restPlanes s).mlr = { s.mlr with rx := .hunting, slot := none } := rfl
@[simp] theorem restPlanes_sq : (restPlanes s).sq = { s.sq with toLoop := none, toBench := none, toTie := none } := rfl
@[simp] theorem restPlanes_pat : (restPlanes s).pat = mapEntries restEntry s.pat := rfl
@[simp] theorem restPlanes_cc : (restPlanes s).cc = s.cc := rfl
@[simp] theorem restPlanes_ss : (restPlanes s).ss = s.ss := rfl
@[simp] theorem restPlanes_lt : (restPlanes s).lt = s.lt := rfl
@[simp] theorem restPlanes_gl : (restPlanes s).gl = s.gl := rfl
@[simp] theorem restPlanes_te : (restPlanes s).te = s.te := rfl
@[simp] theorem restPlanes_oq : (restPlanes s).oq = s.oq := rfl
@[simp] theorem restPlanes_os : (restPlanes s).os = s.os := rfl
@[simp] theorem restPlanes_sm : (restPlanes s).sm = s.sm := rfl
@[simp] theorem restPlanes_clp : (restPlanes s).clp = s.clp := rfl
@[simp] theorem restPlanes_free : (restPlanes s).free = s.free := rfl
@[simp] theorem restPlanes_pending : (restPlanes s).pending = s.pending := rfl

/-! ## restPort -/

@[simp] theorem restPort_clock : (restPort s).clock = s.clock := rfl
@[simp] theorem restPort_mlr : (restPort s).mlr = s.mlr := rfl
@[simp] theorem restPort_sq : (restPort s).sq = { s.sq with foreignLatch := false } := rfl
@[simp] theorem restPort_pat : (restPort s).pat = s.pat := rfl
@[simp] theorem restPort_cc : (restPort s).cc = s.cc := rfl
@[simp] theorem restPort_ss : (restPort s).ss = s.ss := rfl
@[simp] theorem restPort_lt : (restPort s).lt = s.lt := rfl
@[simp] theorem restPort_gl : (restPort s).gl = s.gl := rfl
@[simp] theorem restPort_te : (restPort s).te = s.te := rfl
@[simp] theorem restPort_oq : (restPort s).oq = s.oq := rfl
@[simp] theorem restPort_os : (restPort s).os = s.os := rfl
@[simp] theorem restPort_sm : (restPort s).sm = s.sm := rfl
@[simp] theorem restPort_clp : (restPort s).clp = { s.clp with flags := 0, reports := [] } := rfl
@[simp] theorem restPort_free : (restPort s).free = s.free := rfl
@[simp] theorem restPort_pending : (restPort s).pending = s.pending := rfl

end Sys2Proof.Laws
end

