-- ==== Sys2Proof/Laws/Ops.lean ====
section
/-! SUPPORT. What each shared operation does, said once: reads after writes of the tables, firing an event, handing on
the drive level, ending a tie, leaving and emptying the queue, setting the chainage, and the order of a sample tick. -/

namespace Sys2Proof.Laws

open Sys2Proof.Machine Sys2Proof.Safety

/-! ## The tables -/

@[simp] theorem entryAt_modifyEntry_same (i : Fin 8) (f : PlaneEntry → PlaneEntry) (s : State) :
    entryAt (modifyEntry i f s) i = f (entryAt s i) := by
  simp [entryAt]

theorem entryAt_modifyEntry_of_ne {i j : Fin 8} (h : j ≠ i) (f : PlaneEntry → PlaneEntry) (s : State) :
    entryAt (modifyEntry i f s) j = entryAt s j := by
  have : i.val ≠ j.val := fun e => h (Fin.ext e.symm)
  simp [entryAt, this]

theorem mapEntries_get (f : PlaneEntry → PlaneEntry) (t : Vector PlaneEntry 8) (i : Fin 8) :
    (mapEntries f t)[i.val] = f t[i.val] := by
  match i with
  | 0 | 1 | 2 | 3 | 4 | 5 | 6 | 7 => rfl

@[simp] theorem sheetAt_modifySheet_same (n : Fin 6) (f : Sheet → Sheet) (s : State) :
    sheetAt (modifySheet n f s) n = f (sheetAt s n) := by
  simp [sheetAt]

theorem sheetAt_modifySheet_of_ne {n m : Fin 6} (h : m ≠ n) (f : Sheet → Sheet) (s : State) :
    sheetAt (modifySheet n f s) m = sheetAt s m := by
  have : n.val ≠ m.val := fun e => h (Fin.ext e.symm)
  simp [sheetAt, this]

/-- An in-use count changes no sheet's contents. -/
theorem adjustInUse_body (f : Nat → Nat) (p : OpParams) (s : State) (m : Fin 6) :
    (sheetAt (adjustInUse f p s) m).body = (sheetAt s m).body := by
  unfold adjustInUse
  split
  next n _ _ _ =>
    by_cases h : m = n
    · subst h; simp
    · rw [sheetAt_modifySheet_of_ne h]
  next => rfl

/-! ## Counting and firing -/

theorem countOne_le (n : Nat) (h : n ≤ 65535) : countOne n ≤ 65535 := by
  unfold countOne; split <;> omega

@[simp] theorem offerReport_flags (e : Event) (t : Time) (c : Nat) (p : Clp) :
    (offerReport e t c p).flags = p.flags := by unfold offerReport; split <;> rfl

/-- Offering a record changes the report queue, the sequence counter and REPORT_LOST alone. -/
theorem offerReport_keeps (e : Event) (t : Time) (c : Nat) (p : Clp) :
    offerReport e t c p = { p with
      reports := (offerReport e t c p).reports, seqNo := (offerReport e t c p).seqNo
      counters := { p.counters with reportLost := (offerReport e t c p).counters.reportLost } } := by
  unfold offerReport; split <;> rfl

theorem offerReport_length (e : Event) (t : Time) (c : Nat) (p : Clp) (h : p.reports.length ≤ 8) :
    (offerReport e t c p).reports.length ≤ 8 := by
  unfold offerReport reportCapacity
  split
  · simp; omega
  · exact h

/-- Firing an event sets the flag of its kind. -/
@[simp] theorem fireIn_flags (e : Event) (t : Time) (c : Nat) (p : Clp) :
    (fireIn e t c p).flags = p.flags ||| kindMask (eventNumber e) := by
  unfold fireIn; dsimp only; split <;> simp

/-- Firing an event changes the flags, the report queue, the sequence counter and REPORT_LOST alone. -/
theorem fireIn_keeps (e : Event) (t : Time) (c : Nat) (p : Clp) :
    fireIn e t c p = { p with
      flags := p.flags ||| kindMask (eventNumber e)
      reports := (fireIn e t c p).reports, seqNo := (fireIn e t c p).seqNo
      counters := { p.counters with reportLost := (fireIn e t c p).counters.reportLost } } := by
  unfold fireIn; dsimp only
  split
  · conv_lhs => rw [offerReport_keeps]
  · rfl

@[simp] theorem fireIn_consts (e : Event) (t : Time) (c : Nat) (p : Clp) : (fireIn e t c p).consts = p.consts := by
  rw [fireIn_keeps]

@[simp] theorem fireIn_enables (e : Event) (t : Time) (c : Nat) (p : Clp) : (fireIn e t c p).enables = p.enables := by
  rw [fireIn_keeps]

@[simp] theorem fireIn_address (e : Event) (t : Time) (c : Nat) (p : Clp) : (fireIn e t c p).address = p.address := by
  rw [fireIn_keeps]

@[simp] theorem fireIn_reply (e : Event) (t : Time) (c : Nat) (p : Clp) : (fireIn e t c p).reply = p.reply := by
  rw [fireIn_keeps]

@[simp] theorem fireIn_inHand (e : Event) (t : Time) (c : Nat) (p : Clp) : (fireIn e t c p).inHand = p.inHand := by
  rw [fireIn_keeps]

@[simp] theorem fireIn_held (e : Event) (t : Time) (c : Nat) (p : Clp) : (fireIn e t c p).held = p.held := by
  rw [fireIn_keeps]

@[simp] theorem fireIn_rx (e : Event) (t : Time) (c : Nat) (p : Clp) : (fireIn e t c p).rx = p.rx := by
  rw [fireIn_keeps]

/-- The port keeps its settings, its receiver and its reply through every event. -/
theorem portKept_fire (e : Event) (s : State) : portKept s (fire e s) := by
  simp [portKept]

/-- DAMAGED counts one, and nothing outside the port changes (R9). -/
theorem countDamaged_keeps (s : State) :
    countDamaged s = { s with clp := (countDamaged s).clp }
      ∧ (countDamaged s).clp.counters.damaged = countOne s.clp.counters.damaged := by
  unfold countDamaged fireLineAt
  dsimp only
  split
  · refine ⟨rfl, ?_⟩
    rw [fire_clp, fireIn_keeps]
    rfl
  · exact ⟨rfl, rfl⟩

/-- OVERRUN counts one, and nothing outside the port changes (R9). -/
theorem countOverrun_keeps (s : State) :
    countOverrun s = { s with clp := (countOverrun s).clp }
      ∧ (countOverrun s).clp.counters.overrun = countOne s.clp.counters.overrun := by
  unfold countOverrun fireLineAt
  dsimp only
  split
  · refine ⟨rfl, ?_⟩
    rw [fire_clp, fireIn_keeps]
    rfl
  · exact ⟨rfl, rfl⟩

/-! ## The drive level and the outputs -/

/-- The raise duty after V is handed on (R161). -/
theorem handOn_raiseDuty (v : Int) (s : State) :
    (handOn v s).os.raiseDuty = if dutiesHeld s then 0 else raiseDutyFor s.clp.consts v := by
  rw [handOn_os]; split <;> rfl

/-- The lower duty after V is handed on (R161). -/
theorem handOn_lowerDuty (v : Int) (s : State) :
    (handOn v s).os.lowerDuty = if dutiesHeld s then 0 else lowerDutyFor s.clp.consts v := by
  rw [handOn_os]; split <;> rfl

/-- A drive level of 0 handed on leaves both duties 0. -/
theorem handOn_zero_duties (s : State) : (handOn 0 s).os.raiseDuty = 0 ∧ (handOn 0 s).os.lowerDuty = 0 := by
  rw [handOn_raiseDuty, handOn_lowerDuty]
  constructor <;> split <;> rfl

/-- Handing on a level never drives both coils. -/
theorem handOn_one_coil (v : Int) (s : State) : (handOn v s).os.raiseDuty = 0 ∨ (handOn v s).os.lowerDuty = 0 := by
  rw [handOn_raiseDuty, handOn_lowerDuty]
  split
  · exact .inl rfl
  · unfold raiseDutyFor lowerDutyFor
    by_cases h : 0 < v
    · exact .inr (if_neg (by omega))
    · exact .inl (if_neg h)

/-- Handing on a level keeps the rest of the Output Stage but the open counts. -/
theorem handOn_os_keeps (v : Int) (s : State) :
    (handOn v s).os.stroke = s.os.stroke ∧ (handOn v s).os.tilt = s.os.tilt ∧ (handOn v s).os.faulted = s.os.faulted
      ∧ (handOn v s).os.record = s.os.record ∧ (handOn v s).os.health = s.os.health
      ∧ (handOn v s).os.permit = s.os.permit ∧ (handOn v s).os.pin = s.os.pin := by
  rw [handOn_os]; split <;> exact ⟨rfl, rfl, rfl, rfl, rfl, rfl, rfl⟩

/-- The permit as formed is the one its conditions give (R169). -/
theorem formPermit_law (s : State) : PermitLaw (formPermit s) := ⟨rfl, rfl⟩

/-- Forming the permit again changes nothing. -/
@[simp] theorem formPermit_formPermit (s : State) : formPermit (formPermit s) = formPermit s := rfl

/-! ## The end of a tie -/

theorem endTie_of_none {s : State} (h : s.te.tie = none) (why : TieReason) (spread : Option Int) :
    endTie why spread s = s := by
  unfold endTie; rw [h]

/-- A tie that ends without transfer (R134): its candidate STANDBY without a tie, the outcome kept, TIE_FAILED fired,
and nothing else changed. -/
theorem endTie_of_some {s : State} {r : TieRecord} (h : s.te.tie = some r) (why : TieReason) (spread : Option Int) :
    endTie why spread s = { s with
      pat := s.pat.set r.candidate.val { s.pat[r.candidate.val] with role := .standby, tie := none }
      te := { s.te with tie := none, last := some (.failed r.candidate why r.pairs.length spread) }
      clp := fireIn (.tieFailed r.candidate why r.pairs.length spread) s.clock (chainage s) s.clp } := by
  unfold endTie; rw [h]; rfl

/-- No tie is in flight once one has been ended. -/
theorem endTie_tie (why : TieReason) (spread : Option Int) (s : State) : (endTie why spread s).te.tie = none := by
  cases h : s.te.tie with
  | none => rw [endTie_of_none h, h]
  | some r => rw [endTie_of_some h]

/-! ## Leaving the queue -/

theorem leaveQueue_nil {s : State} (h : s.oq.ops = []) (out : OpOutcome) (why : OpReason) : leaveQueue out why s = s := by
  unfold leaveQueue; rw [h]

/-- What leaving the queue does (R155): the operation is gone, with the contexts, the pause reasons and the timer it
used; V is 0; the sequencer, the tie, the planes, the mast line, the chainage and the shadow run's mark are kept. -/
theorem leaveQueue_cons {s : State} {op : Operation} {rest : List Operation} (h : s.oq.ops = op :: rest)
    (out : OpOutcome) (why : OpReason) :
    (leaveQueue out why s).oq = { ops := rest, seq := s.oq.seq, pause := .none, dwellTimer := none }
      ∧ (leaveQueue out why s).gl = { v := 0, loop := none } ∧ (leaveQueue out why s).lt = none
      ∧ (leaveQueue out why s).te = { s.te with bench := none }
      ∧ (leaveQueue out why s).cc = { s.cc with chw := none }
      ∧ (leaveQueue out why s).os = (handOn 0 s).os
      ∧ (leaveQueue out why s).sm = s.sm.map (fun m => { m with drive := 0 })
      ∧ (leaveQueue out why s).pat = s.pat ∧ (leaveQueue out why s).mlr = s.mlr ∧ (leaveQueue out why s).sq = s.sq
      ∧ (leaveQueue out why s).clock = s.clock ∧ (leaveQueue out why s).pending = s.pending
      ∧ (leaveQueue out why s).clp
          = fireIn (.opDone op.tag (kindOf op.params) out why (cyclesReported op s.free) rest.length) s.clock (chainage s)
              s.clp := by
  unfold leaveQueue
  rw [h]
  unfold adjustInUse
  dsimp only
  cases op.params <;> dsimp only <;> split <;>
    exact ⟨rfl, rfl, rfl, rfl, rfl, rfl, rfl, rfl, rfl, rfl, rfl, rfl, rfl⟩

/-- Flushing as many operations as the queue holds empties it. -/
theorem flushWaiting_ops (why : OpReason) :
    ∀ (n : Nat) (s : State), s.oq.ops.length ≤ n → (flushWaiting why n s).oq.ops = []
  | 0, s, h => List.eq_nil_of_length_eq_zero (Nat.le_zero.mp h)
  | n + 1, s, h => by
    unfold flushWaiting
    cases hs : s.oq.ops with
    | nil => rw [leaveQueue_nil hs]; exact flushWaiting_ops why n s (by simp [hs])
    | cons op rest =>
      refine flushWaiting_ops why n _ ?_
      rw [(leaveQueue_cons hs _ _).1]
      simp [hs] at h
      exact h

/-- Emptying the queue leaves none (R153). -/
theorem emptyQueue_ops (out : OpOutcome) (why : OpReason) (s : State) : (emptyQueue out why s).oq.ops = [] :=
  flushWaiting_ops why _ _ (Nat.le_refl _)

/-- With nothing waiting the sequencer rests (R155 step 5). -/
theorem startHead_nil {s : State} (h : s.oq.ops = []) (fuel : Nat) : startHead (fuel + 1) s = idleSequencer s := by
  unfold startHead; rw [h]

/-- The only operation completes: it leaves the queue and the sequencer rests. -/
theorem completeHead_single {s : State} {op : Operation} (h : s.oq.ops = [op]) (out : OpOutcome) (why : OpReason) :
    completeHead out why s = idleSequencer (leaveQueue out why s) := by
  unfold completeHead
  have hl := (leaveQueue_cons h out why).1
  exact startHead_nil (by rw [hl]) _

/-! ## The boundary test -/

/-- Short of the boundary the test does nothing (R57). -/
theorem boundaryTest_below {s : State} {r : RunCtx} {high : Nat} (hr : s.lt = some r) (hc : s.cc.chw = some high)
    (h : high < endChainage r.cur) (fuel : Nat) : boundaryTest fuel s = s := by
  cases fuel with
  | zero => rfl
  | succ n => unfold boundaryTest; rw [hr, hc]; exact if_neg (by omega)

/-! ## The chainage -/

/-- The chainage after a setting (R30). -/
theorem setTheChainage_cc (c : Nat) (s : State) :
    (setTheChainage c s).cc = { s.cc with acc := 1000 * c, limitLatch := false, anchor := c } := by
  have : 1000 * c / 1000 = c := by omega
  simp [setTheChainage, this]

/-- A step never takes the accumulator past its upper end (R26). -/
theorem steppedAcc_le (forward : Bool) (acc size : Nat) (h : acc ≤ accTop) : steppedAcc forward acc size ≤ accTop := by
  unfold steppedAcc
  split
  · exact Nat.min_le_right _ _
  · exact Nat.le_trans (Nat.sub_le _ _) h

/-! ## The order of a sample tick -/

/-- The picked order takes every item once. -/
theorem inPickedOrder_perm :
    ∀ (fuel n : Nat) (l : List TickItem), l.length = fuel → (inPickedOrder fuel n l).Perm l
  | 0, _, _, _ => List.Perm.refl _
  | _ + 1, _, [], h => by simp at h
  | fuel + 1, n, x :: xs, h => by
    have hi : n % (x :: xs).length < (x :: xs).length := Nat.mod_lt _ (by simp)
    have hl : ((x :: xs).eraseIdx (n % (x :: xs).length)).length = fuel := by
      rw [List.length_eraseIdx_of_lt hi]; simp at h ⊢; exact h
    have hd : (x :: xs).getD (n % (x :: xs).length) x = (x :: xs)[n % (x :: xs).length] := by
      rw [List.getD_eq_getElem _ _ hi]
    unfold inPickedOrder
    dsimp only
    rw [hd]
    exact ((inPickedOrder_perm fuel _ _ hl).cons _).trans (List.getElem_cons_eraseIdx_perm hi)

/-- A tick with nothing due does nothing. -/
theorem takeItems_nil (s : State) : takeItems [] s = s := rfl

/-- A tick with one thing due takes it. -/
theorem takeItems_single (x : TickItem) (s : State) : takeItems [x] s = takeItem s x := rfl

/-! ## The port's hand -/

/-- Taking a request out of the port's hand leaves the other requests in hand in their order (log 4). -/
theorem dropTaken_sublist (broadcast : Bool) (kind tag : Nat) (l : List Received) :
    (dropTaken broadcast kind tag l).Sublist l := List.eraseP_sublist

end Sys2Proof.Laws
end

