-- ==== Sys2Proof/WellFormed.lean ====
section
/-! DEFINITION. Well-formed commands: every operand fits the bytes in which R183 sends it. The tests of
range that decide a reply are the owners' own and are made when the command is carried out. -/

namespace Sys2Proof

/-- The value fits n unsigned bytes (R183: the fewest whole bytes its range needs). -/
def fitsBytes (n v : Nat) : Bool := v < 256 ^ n

/-- The value fits n bytes in two's complement (R183). -/
def fitsSigned (n : Nat) (v : Int) : Bool :=
  decide (-(256 ^ n / 2 : Int) ≤ v) && decide (v < (256 ^ n / 2 : Int))

/-- The header of OPEN_SHEET fits its bytes, and with its name the 48 bytes of a body (R183). -/
def HeaderFields.wellFormed (h : HeaderFields) : Bool :=
  decide (h.name.length ≤ 38) && fitsBytes 1 h.depthMark && fitsBytes 2 h.depth && fitsBytes 2 h.minGrade
    && fitsBytes 1 h.shallow && fitsBytes 1 h.deep && fitsBytes 1 h.autoAdvance

/-- The kind and parameters of ENQUEUE fit their bytes; a code below 5 names a kind (R183). -/
def OpFields.wellFormed : OpFields → Bool
  | .dig sheet k0 entry mark c0 =>
      fitsBytes 1 sheet && fitsBytes 1 k0 && fitsBytes 1 entry && fitsBytes 1 mark && fitsBytes 3 c0
  | .plunge target => fitsBytes 2 target
  | .hold mark target distance => fitsBytes 1 mark && fitsBytes 2 target && fitsBytes 3 distance
  | .lift => true
  | .dwell time => fitsBytes 2 time
  | .unknown code => fitsBytes 1 code && decide (5 ≤ code)

/-- The kind codes of the catalogue (section 11.2). -/
def requestCodes : List Nat :=
  [1, 2, 3, 4, 5, 6, 7, 8, 9, 10, 16, 17, 18, 19, 20, 32, 33, 34, 35, 40, 48, 49, 50, 51, 52, 64, 65, 66, 67,
    72, 80, 81, 82]

/-- Whether every operand of a command fits its place. -/
def Instr.wellFormed : Instr → Bool
  | .powerOn _ _ _ _ => true
  | .mastByte _ _ _ => true
  | .mastGapTimerExpiry => true
  | .strikeTake => true
  | .gradeLoopStrike => true
  | .benchStrike => true
  | .tieStrike => true
  | .wheelTransition _ => true
  | .stillnessTimerExpiry => true
  | .beamAgeTimerExpiry => true
  | .searchTimerExpiry => true
  | .lostDriveTimerExpiry => true
  | .tieTimerExpiry => true
  | .dwellTimerExpiry => true
  | .sampleTick _ => true
  | .shadowPeriodTimerExpiry => true
  | .cabByte _ _ => true
  | .cabGapTimerExpiry => true
  | .replyComplete => true
  | .unknownKindRequest tag kind => fitsBytes 1 tag && fitsBytes 1 kind && !requestCodes.contains kind
  | .identify tag => fitsBytes 1 tag
  | .status tag => fitsBytes 1 tag
  | .poll tag => fitsBytes 1 tag
  | .readFlags tag => fitsBytes 1 tag
  | .clearFlags tag _ => fitsBytes 1 tag
  | .setEnables tag _ => fitsBytes 1 tag
  | .readCounts tag => fitsBytes 1 tag
  | .setConstant tag id value => fitsBytes 1 tag && fitsBytes 1 id && fitsSigned 4 value
  | .getConstant tag id => fitsBytes 1 tag && fitsBytes 1 id
  | .restart tag => fitsBytes 1 tag
  | .openSheet tag n header => fitsBytes 1 tag && fitsBytes 1 n && header.wellFormed
  | .appendSegment tag n length grade marker stopAtEnd =>
      fitsBytes 1 tag && fitsBytes 1 n && fitsBytes 3 length && fitsSigned 2 grade && fitsBytes 1 marker
        && fitsBytes 1 stopAtEnd
  | .sealSheet tag n => fitsBytes 1 tag && fitsBytes 1 n
  | .eraseSheet tag n => fitsBytes 1 tag && fitsBytes 1 n
  | .readSheet tag n index => fitsBytes 1 tag && fitsBytes 1 n && fitsBytes 1 index
  | .definePlane tag entry sigLo sigHi slope =>
      fitsBytes 1 tag && fitsBytes 1 entry && fitsBytes 1 sigLo && fitsBytes 1 sigHi && fitsSigned 2 slope
  | .clearPlane tag entry => fitsBytes 1 tag && fitsBytes 1 entry
  | .readPlane tag entry => fitsBytes 1 tag && fitsBytes 1 entry
  | .mastLine tag setting => fitsBytes 1 tag && fitsBytes 1 setting
  | .setChainage tag value => fitsBytes 1 tag && fitsBytes 4 value
  | .enqueue tag opTag op standing =>
      fitsBytes 1 tag && fitsBytes 1 opTag && op.wellFormed && fitsBytes 1 standing
  | .readQueue tag => fitsBytes 1 tag
  | .softAbort tag => fitsBytes 1 tag
  | .stop _ tag => fitsBytes 1 tag
  | .resume tag => fitsBytes 1 tag
  | .tieStart tag entry n mode => fitsBytes 1 tag && fitsBytes 1 entry && fitsBytes 1 n && fitsBytes 1 mode
  | .tieCommit tag => fitsBytes 1 tag
  | .tieCancel tag => fitsBytes 1 tag
  | .readTie tag => fitsBytes 1 tag
  | .clearFault tag => fitsBytes 1 tag
  | .shadowOn tag => fitsBytes 1 tag
  | .shadowOff tag => fitsBytes 1 tag
  | .shadowGap tag distance => fitsBytes 1 tag && fitsBytes 2 distance

end Sys2Proof
end

