-- ==== Sys2Proof/Tests/Slice0.lean ====
section
/-! SUPPORT. Tests of single steps against the spec's worked examples and tables, the smoke tests of WellFormed, and
one witness for the hypotheses of each clause of the statements. -/

namespace Sys2Proof.Tests

open Sys2Proof.Machine Sys2Proof.Safety

set_option maxRecDepth 8000

/-! ## States -/

/-- A figure of the state a command leaves. -/
def seen {α : Type} (o : Host.Outcome State Fault Refusal) (f : State → α) : Option α :=
  match o with
  | .next t => some (f t)
  | _ => none

/-- An entry of the Plane Acceptance Table that has shown no strike. -/
def plane (role : Role) (lo hi : Nat) (slope : Int) (tie : Option Tie) : PlaneEntry :=
  { role := role, sigLo := lo, sigHi := hi, slope := slope, tie := tie, count := 0, matched := false, last := none }

/-- The planes of the worked examples: entry 2 ACTIVE, entries 3 and 6 STANDBY (sections 1.4, 5.11, 7.10). -/
def planes : Vector PlaneEntry 8 :=
  let e := PlaneEntry.cleared
  #v[e, e, plane .active 5 9 100 (some ⟨2450, 0⟩), plane .standby 40 44 0 none, e, e, plane .standby 60 64 150 none, e]

/-- The constants of section 5.11. -/
def rig : Constants := { defaultConstants with mastLength := 2400 }

/-- An idle part with the planes and constants of the worked examples. -/
def idle : State := { State.reset with pat := planes, clp := { State.reset.clp with consts := rig } }

/-- The header and the segments of sheet 2 (section 3.9). -/
def header2 : Header :=
  { name := [0x4E, 0x2D, 0x46, 0x49, 0x45, 0x4C, 0x44, 0x33], startDepth := none, minGrade := 100, shallow := 5,
    deep := 10, autoAdvance := true }

/-- The segments of sheet 2 (section 3.9). -/
def segments2 : List Segment :=
  [⟨100000, 150, .none, false⟩, ⟨240000, 200, .junction, false⟩, ⟨185500, 120, .inspection, true⟩,
    ⟨410000, 300, .headEnd, false⟩]

/-- A part whose sheet 2 holds a body, named by so many DIGs. -/
def withSheet (b : SheetBody) (uses : Nat) (s : State) : State :=
  { s with ss := s.ss.set 1 { body := b, inUse := uses } }

/-- The head of the queue, executing since time 0. -/
def head (p : OpParams) (standing : Bool) : Operation :=
  { tag := 31, params := p, standing := standing, state := .executing ⟨0, if mayStand p then 1 else 0, 0, 0⟩ }

/-- An operation that waits. -/
def waiter (p : OpParams) : Operation := { tag := 32, params := p, standing := false, state := .waiting }

/-- A part with a queue, and the sequencer to match. -/
def withOps (l : List Operation) (s : State) : State :=
  { s with oq := { s.oq with ops := l, seq := if l.isEmpty then .idle else .executing } }

/-- A loop context with the bands 5 and 10. -/
def loopOf (kind : LoopKind) (state : LoopState) (target : ConstTarget) : LoopCtx :=
  { kind := kind, state := state, shallow := 5, deep := 10, window := [], settle := 0, holdCount := 0,
    target := target, record := none }

/-- The run of section 5.11: segment 1 of sheet 2, from c0 = 0. -/
def run1 : RunCtx :=
  { sheet := 1, k0 := 0, c0 := 0, base := 0,
    cur := { index := 1, cs := 100000, invert := 150, grade := 200, length := 240000, marker := .junction,
             stopAtEnd := false },
    staged := some ⟨2, 340000, 630⟩, phase := .running, frozen := none, unbenched := false, softAborted := false }

/-- The DIG of section 5.11 before its first strike: V +150, the window 22, 26, 28, the tilt sample 3.47 degrees. -/
def digging : State :=
  let s := withOps [head (.dig 1 0 2 (some 0)) false] (withSheet (.sealed header2 segments2) 1 idle)
  { s with
    lt := some run1
    gl := { v := 150, loop := some { loopOf .dig (.tracking 400) .absent with window := [22, 26, 28] } }
    cc := { s.cc with acc := 123456000, chw := some 123456, anchor := 123452 }
    os := { s.os with stroke := 500, tilt := 347, raiseDuty := 320, permit := true, pin := true } }

/-- A strike of entry 2 handed to the Grade Loop. -/
def strikeOf (beam : Beam) (c : Nat) (t : Time) : QStrike := { entry := 2, beam := beam, chainage := c, time := t }

/-- A part with a strike handed to its Grade Loop. -/
def handed (beam : Beam) (s : State) : State :=
  { s with sq := { s.sq with toLoop := some (strikeOf beam (chainage s) s.clock) } }

/-- A part holding with a loop in some state, a target of 2400 and the tilt upright. -/
def holding (state : LoopState) : State :=
  let s := withOps [head (.hold (some 2400) 1000) false] idle
  { s with gl := { v := 0, loop := some (loopOf .hold state (.given 2400)) }, os := { s.os with stroke := 500 } }

/-- A benching DIG with a collector of these samples. -/
def benching (sampling : Bool) (samples : List Int) : State :=
  let run := { run1 with cur := { run1.cur with index := 0, cs := 0, invert := 0, length := 100000 }, phase := .benching,
                         staged := some ⟨1, 100000, 150⟩ }
  { digging with
    lt := some run
    gl := { v := 0, loop := some (loopOf .dig .acquiring .absent) }
    cc := { digging.cc with acc := 21000, chw := some 21, anchor := 21, still := .still }
    te := { digging.te with bench := some {
      sampling := sampling, samples := samples, reference := if samples.isEmpty then none else some 21
      moveRestarts := 1, spreadRestarts := 1 } }
    os := { digging.os with tilt := 0, raiseDuty := 0, permit := false, pin := false }
    oq := { digging.oq with pause := { digging.oq.pause with beam := true, bench := true } } }

/-- A part with a DWELL of 500 ms executing and operations behind it. -/
def dwelling (standing : Bool) (behind : List Operation) : State :=
  let s := withOps (head (.dwell 500) standing :: behind) idle
  { s with oq := { s.oq with dwellTimer := some 500 } }

/-- The benching DIG with a strike of entry 2 handed to the collector. -/
def benchHanded (sampling : Bool) (samples : List Int) (b : Int) (c : Nat) : State :=
  let s := benching sampling samples
  { s with sq := { s.sq with toBench := some (strikeOf (.inWindow b) c 0) } }

/-- The tie of section 7.10 after two pairs. -/
def tie3 : TieRecord :=
  { candidate := 6, n := 3, mode := .confirm, startChainage := 199898, startTime := 100000, timer := some 160000,
    activeSlot := some ⟨2409, 200960, 108850⟩, candidateSlot := none, cRef := some 200000,
    pairs := [⟨200000, 2595⟩, ⟨200480, 2595⟩], result := none }

/-- The leapfrog of section 7.10 at step 8, with a strike in the Tie Engine. -/
def tying (r : TieRecord) (stream : TieStream) (q : QStrike) : State :=
  { idle with
    pat := planes.set 6 (plane .candidate 60 64 150 none)
    te := { idle.te with tie := some r }
    sq := { idle.sq with toTie := some (stream, q) }
    clock := 108930 }

/-- The strike of entry 6 at step 8 of section 7.10: D 2357 of a mast of 2400. -/
def strike6 : QStrike := { entry := 6, beam := .inWindow (-43), chainage := 200970, time := 108930 }

/-- The tie of section 7.10 with its result waiting. -/
def tieDone : TieRecord :=
  { tie3 with timer := none, activeSlot := none, result := some ⟨⟨2596, 200000⟩, 3⟩ }

/-- A part in a shadow run, with the drive V last handed to the model. -/
def shadowed (v ds : Int) (stroke : Nat) (gap : Option Gap) : State :=
  { idle with
    cc := { idle.cc with acc := 5000000, source := .shadow }
    sm := some { setAside := 5000123, stroke := stroke, ds := ds, mast := 2400, due := 100, gap := gap, drive := v,
                 handed := stroke } }

/-- Readings of sound wiring with the stroke and the tilt in the middle of their spans. -/
def sound : Readings := { stroke := 1500000, tilt := 1500000, raise := ⟨1000, true⟩, lower := ⟨1000, true⟩ }

/-! ## Tests against the spec's own figures -/

/-- The check bytes of section 1.1. -/
theorem test_strike_check : strikeCheck 7 50 55 0 = 143 ∧ strikeCheck 200 0 0 1 = 54 := by decide

/-- The CRC-16 of R183 over the digits 1 to 9 is 0x29B1, the published check value of this CRC (not in the spec). -/
theorem test_crc16 : crc16 [0x31, 0x32, 0x33, 0x34, 0x35, 0x36, 0x37, 0x38, 0x39] = 0x29B1#16 := by decide

/-- Rounding half away from zero, the quotients 26.5 and −26.5 of 106 and −106 over 4 (R84). -/
theorem test_round : roundDiv 106 4 = 27 ∧ roundDiv (-106) 4 = -27 ∧ roundDiv (-46) 4 = -12 := by decide

/-- The quantised tilts and drops of strikes 1 to 3 of section 5.11. -/
theorem test_tilt : tiltTenths 347 = 35 ∧ tiltTenths 204 = 20 ∧ tiltTenths 105 = 11
    ∧ tiltDrop 2400 35 = 4 ∧ tiltDrop 2400 20 = 1 ∧ tiltDrop 2400 11 = 0 := by decide

/-- Decisions of section 5.11. -/
theorem test_decisions : decide3 5 10 15 = .raise ∧ decide3 5 10 5 = .hold ∧ decide3 5 10 (-5) = .hold
    ∧ decide3 5 10 (-12) = .lower := by decide

/-- Wanted levels of section 5.11, and of section 6.11 at half gain. -/
theorem test_wanted : wantedLevel rig 5 10 0 .raise 27 = 188 ∧ wantedLevel rig 5 10 0 .lower (-12) = -148
    ∧ wantedLevel rig 5 10 10 .lower (-8) = -126 := by decide

/-- Slewed levels of section 5.11. -/
theorem test_slew : slewLevel 25 150 188 = 175 ∧ slewLevel 25 192 176 = 176 ∧ slewLevel 25 140 0 = 0
    ∧ slewLevel 25 0 (-148) = -25 := by decide

/-- The duties of section 9.7. -/
theorem test_duties : raiseDutyFor rig 1 = 200 ∧ raiseDutyFor rig 25 = 220 ∧ raiseDutyFor rig 175 = 340
    ∧ lowerDutyFor rig (-148) = 318 ∧ raiseDutyFor rig 800 = 840 ∧ lowerDutyFor rig (-1000) = 1000
    ∧ raiseDutyFor rig 0 = 0 ∧ lowerDutyFor rig 0 = 0 := by decide

/-- The changes of depth of section 10.3. -/
theorem test_depth_changes : freeDepthChange 800 120 100 = -9 ∧ freeDepthChange 188 120 100 = -2
    ∧ freeDepthChange 25 120 100 = 0 ∧ freeDepthChange (-25) 120 100 = 1 ∧ freeDepthChange (-148) 120 100 = 2
    ∧ freeDepthChange (-1000) 120 100 = 12 := by decide

/-- The ends of the stroke and tilt spans (R164, R165). -/
theorem test_readings : strokeReading 500000 = 0 ∧ strokeReading 2500000 = 1000 ∧ strokeReading 400000 = -50
    ∧ strokeReading 2600000 = 1050 ∧ tiltReading 500000 = -3000 ∧ tiltReading 2500000 = 3000
    ∧ tiltReading 0 = -3000 := by decide

/-- The rises of sheet 2 (section 3.9). -/
theorem test_rises : riseOf 120 185500 = 223 ∧ totalRise segments2 = 2083 ∧ totalLength segments2 = 935500 := by
  decide

/-- R171: the first sample of POWER_ON, out of range, faults the part. -/
theorem test_powerOn : seen (exec (.powerOn true false ⟨true, false⟩ { sound with stroke := 300000 }) State.reset)
    (fun t => (t.clp.address, t.os.faulted, t.oq.seq, t.cc.pair)) = some (1, true, .faulted, ⟨true, false⟩) := by decide

/-- Step 1 of section 1.4: the check byte 143 of frame A, stamped chainage 123,456. -/
theorem test_mastByte : seen (exec (.mastByte 143 true true)
      { digging with mlr := { digging.mlr with rx := .collecting [0xB4, 7, 50, 55, 0] 2 } })
    (fun t => t.mlr.slot.map fun x => (x.sig, x.chainage)) = some (some (7, 123456)) := by decide

/-- Step 3 of section 1.4: a byte with the parity mark takes DAMAGED from 15 to 16 and LINE fires. -/
theorem test_mastByte_damaged : seen (exec (.mastByte 3 true true)
      { withCounters (fun c => { c with damaged := 15 }) idle with
        mlr := { idle.mlr with rx := .collecting [0xB4, 120] 2 } })
    (fun t => (t.clp.counters.damaged, t.clp.flags)) = some (16, 0x8000) := by decide

/-- R6: the expiry counts one in DAMAGED, and 15 is no multiple of 16. -/
theorem test_mastGap : seen (exec .mastGapTimerExpiry
      { withCounters (fun c => { c with damaged := 14 }) idle with mlr := { idle.mlr with rx := .collecting [0xB4] 2 } })
    (fun t => (t.clp.counters.damaged, t.clp.flags, t.mlr.rx)) = some (15, 0, .hunting) := by decide

/-- Step 1 of section 1.4: A is taken with b = 10 and handed to the Grade Loop. -/
theorem test_strikeTake : seen (exec .strikeTake (setSlot (some ⟨7, 50, 55, 0, 123456, 9, false⟩) digging))
    (fun t => (t.sq.toLoop.map (·.beam), (entryAt t 2).count)) = some (some (.inWindow 10), 1) := by decide

/-- Strike 1 of section 5.11: T 2376, ef 27, V from +150 to +175. -/
theorem test_gradeLoopStrike : seen (exec .gradeLoopStrike (handed (.inWindow 10) digging))
    (fun t => (t.gl.v, (t.gl.loop.bind (·.record)).map (·.depth),
      ((t.gl.loop.bind (·.record)).bind (·.errors)).map fun e => (e.target, e.filtered)))
    = some (175, some 2406, some (2376, 27)) := by decide

/-- Step 6 of section 6.11: a BELOW strike in LOST drives down at 150, the timer at 56,000. -/
theorem test_gradeLoopStrike_lost :
    seen (exec .gradeLoopStrike { handed .below (holding (.lost none)) with clock := 53000 })
      (fun t => (t.gl.v, t.gl.loop.map (·.state))) = some (-150, some (.lost (some ⟨.down, 150, 56000⟩))) := by decide

/-- Step 9 of section 7.9: the eighth sample ties entry 2 with (2450, 0), spread 4. -/
theorem test_benchStrike :
    seen (exec .benchStrike (benchHanded true [2449, 2451, 2450, 2452, 2448, 2450, 2451] 49 21))
      (fun t => ((entryAt t 2).tie, t.lt.map (·.phase), t.te.bench)) = some (some ⟨2450, 0⟩, some .running, none) := by
  decide

/-- Step 8 of section 7.10: the third pair, with the result 2596 at 200,000 and spread 3. -/
theorem test_tieStrike : seen (exec .tieStrike (tying tie3 .candidate strike6))
    (fun t => t.te.tie.map fun r => (r.pairs.map (·.estimate), r.result))
    = some (some ([2595, 2595, 2598], some ⟨⟨2596, 200000⟩, 3⟩)) := by decide

/-- Step 1 of section 2.7: a forward step of 3330 µm moves the anchor to 123,459. -/
theorem test_wheel : seen (exec (.wheelTransition ⟨true, false⟩)
      { digging with clp := { digging.clp with consts := { rig with wheelPitch := 3330 } } })
    (fun t => (t.cc.acc, t.cc.chw, t.cc.anchor)) = some (123459330, some 123459, 123459) := by decide

/-- Steps 1 and 2 of the second table of section 2.7: cut short with LINE, then dropped whole. -/
theorem test_wheel_limit : seen (exec (.wheelTransition ⟨true, false⟩) { idle with cc := { idle.cc with acc := 999997000 } })
    (fun t => (t.cc.acc, t.cc.limitLatch, t.clp.flags)) = some (999999999, true, 0x8000) := by decide

/-- R65: a DIG that has ENDED completes as the machine stands. -/
theorem test_stillness : seen (exec .stillnessTimerExpiry { digging with lt := some { run1 with phase := .ended } })
    (fun t => (t.oq.ops, t.gl.v, t.cc.still)) = some ([], 0, .still) := by decide

/-- Step 1 of section 6.11: the beam-age timer expires at chainage 300,048. -/
theorem test_beamAge : seen (exec .beamAgeTimerExpiry
      { digging with clock := 50400, cc := { digging.cc with acc := 300048000 } })
    (fun t => (t.gl.v, t.gl.loop.map (·.state))) = some (0, some (.coasting 300048 50400)) := by decide

/-- R108: a search that runs out of time is LOST. -/
theorem test_search : seen (exec .searchTimerExpiry (holding (.searching .up 150 0 3000 1 0)))
    (fun t => (t.gl.loop.map (·.state), t.oq.pause.beam, t.clp.flags)) = some (some (.lost none), true, 0x40) := by decide

/-- R112: the LOST drive ends. -/
theorem test_lostDrive : seen (exec .lostDriveTimerExpiry (holding (.lost (some ⟨.up, 150, 3000⟩))))
    (fun t => (t.gl.loop.map (·.state), t.gl.v)) = some (some (.lost none), 0) := by decide

/-- R129, R134: a tie that runs out of time leaves its candidate STANDBY. -/
theorem test_tieTimer : seen (exec .tieTimerExpiry (tying tie3 .candidate strike6))
    (fun t => ((entryAt t 6).role, t.te.tie, t.clp.flags)) = some (.standby, none, 0x200) := by decide

/-- R149: a standing DWELL alone in the queue begins its second cycle. -/
theorem test_dwell : seen (exec .dwellTimerExpiry (dwelling true []))
    (fun t => ((executing t).map fun x => x.2.cycles, t.oq.dwellTimer)) = some (some 2, some 500) := by decide

/-- Step 4 of section 9.8: the third open reading declares COIL_OPEN_RAISE, and both operations leave the queue. -/
theorem test_sampleTick : seen (exec (.sampleTick { sound with raise := ⟨10, false⟩ })
      { digging with
        oq := { digging.oq with ops := digging.oq.ops ++ [waiter .lift] }
        os := { digging.os with raise := ⟨2, .broken⟩ } })
    (fun t => (t.os.record.map (·.cause), t.oq.ops, t.oq.seq, t.os.raiseDuty)) =
      some (some .coilOpenRaise, [], .faulted, 0) := by decide

/-- Step 7 of section 9.8: the plug refitted, the health set is empty. -/
theorem test_sampleTick_healed : seen (exec (.sampleTick sound)
      { idle with os := { idle.os with faulted := true, raise := ⟨3, .broken⟩, health := ⟨true, false, false⟩ } })
    (fun t => (t.os.raise.openCount, healthy t.os.health, t.os.faulted)) = some (0, true, true) := by decide

/-- Section 10.3 at V −148 with the boot at 2402: Ds 2404 gives the cells 49 and 50 of section 10.8. -/
theorem test_shadowPeriod : seen (exec .shadowPeriodTimerExpiry (shadowed (-148) 2402 500 none))
    (fun t => (t.sm.map (fun m => (m.ds, m.stroke)), t.mlr.slot.map fun x => (x.first, x.last)))
    = some (some (2404, 498), some (49, 50)) := by decide

/-- R185: a length above 48 drops the frame. -/
theorem test_cabByte : seen (exec (.cabByte 49 true)
      { idle with clp := { idle.clp with rx := .collecting [0x5A, 0, 3, 7] 2 } })
    (fun t => (t.clp.counters.cabDropped, t.clp.rx)) = some (1, .hunting) := by decide

/-- R185, R187: an IDENTIFY to node 0 waits to be taken with the receiver held. -/
theorem test_cabByte_identify : seen (exec (.cabByte ((frameOf 0 1 7 []).getLastD 0) true)
      { idle with clp := { idle.clp with rx := .collecting (frameOf 0 1 7 []).dropLast 2 } })
    (fun t => (t.clp.held, t.clp.inHand)) = some (true, [⟨1, 7, false, .identify 7⟩]) := by decide

/-- R185: the gap timer drops the frame. -/
theorem test_cabGap : seen (exec .cabGapTimerExpiry { idle with clp := { idle.clp with rx := .collecting [0x5A] 2 } })
    (fun t => t.clp.counters.cabDropped) = some 1 := by decide

/-- R187: the end of the reply frees the receiver. -/
theorem test_replyComplete : seen (exec .replyComplete (refuse .poll 7 .state idle)) (fun t => (t.clp.reply, t.clp.held))
    = some (none, false) := by decide

/-- R187: an unknown kind is answered BAD_KIND, code 2. -/
theorem test_unknownKind : seen (exec (.unknownKindRequest 7 200) idle)
    (fun t => t.clp.reply.map fun r => (r.kind, r.result.ctorIdx)) = some (some (200, 2)) := by decide

/-- R192: the identifier "LZ340", the revision 1, the node address and the time, in a frame of 11 contents. -/
theorem test_identify : seen (exec (.identify 7) { idle with clock := 0x01020304 })
    (fun t => t.clp.reply.map fun r => contentBytes r.contents)
    = some (some [0x4C, 0x5A, 0x33, 0x34, 0x30, 1, 0, 1, 2, 3, 4]) := by decide

/-- R192: STATUS changes nothing but the reply. -/
theorem test_status : seen (exec (.status 7) digging) (fun t => { t with clp := digging.clp }) = some digging := by decide

/-- R192: the STATUS reply of a part at rest is sent: its contents and the result byte fit in 48 bytes. -/
theorem test_status_frame : ((answer .status 7 .ok (.status (statusReply State.reset)) State.reset).clp.reply.map fun r =>
    (replyFrame 0 r).isSome) = some true := by decide

/-- R186, R187: an addressed STOP of wrong length is answered BAD_LENGTH, and a broadcast STOP of the same tag still
waits. -/
theorem test_badLength : seen (exec (.cabByte ((frameOf 0 51 7 [0]).getLastD 0) true)
      { idle with clp := { idle.clp with
        rx := .collecting (frameOf 0 51 7 [0]).dropLast 2, inHand := [⟨51, 7, true, .stop true 7⟩] } })
    (fun t => (t.clp.inHand, t.clp.reply.map fun r => r.result.ctorIdx)) =
      some ([⟨51, 7, true, .stop true 7⟩], some 3) := by decide

/-- R187: a request carried out behind a waiting broadcast STOP leaves the port's hand. -/
theorem test_takenBehindStop : seen (exec (.identify 7)
      { idle with clp := { idle.clp with inHand := [⟨51, 9, true, .stop true 9⟩, ⟨1, 7, false, .identify 7⟩] } })
    (fun t => t.clp.inHand) = some [⟨51, 9, true, .stop true 9⟩] := by decide

/-- R189: POLL takes the oldest record. -/
theorem test_poll : seen (exec (.poll 7)
      (fire (.line .foreign) { idle with clp := { idle.clp with enables := 0x8000 } })) (fun t => t.clp.reports)
    = some [] := by decide

/-- R188: READ_FLAGS leaves the flags. -/
theorem test_readFlags : seen (exec (.readFlags 7) (fire (.line .foreign) idle)) (fun t => t.clp.flags) = some 0x8000 := by
  decide

/-- R15, R188: clearing LINE clears the foreign latch. -/
theorem test_clearFlags : seen (exec (.clearFlags 7 0x8000)
      { fire (.line .foreign) idle with sq := { idle.sq with foreignLatch := true } })
    (fun t => (t.clp.flags, t.sq.foreignLatch)) = some (0, false) := by decide

/-- R188: the enables are the mask given. -/
theorem test_setEnables : seen (exec (.setEnables 7 0x4021) idle) (fun t => t.clp.enables) = some 0x4021 := by decide

/-- R190: the counters go into the reply and are then 0. -/
theorem test_readCounts : seen (exec (.readCounts 7) (countForeign idle)) (fun t => t.clp.counters) = some Counters.zero := by
  decide

/-- R191: DRIVE_MIN at most 300, and clamped to DRIVE_MAX 600, is 300 for 900. -/
theorem test_setConstant : seen (exec (.setConstant 7 3 900) idle)
    (fun t => (t.clp.consts.driveMin, t.clp.reply.map (·.result))) = some (300, some .clamped) := by decide

/-- R191: STROKE_TOP stays 100 above STROKE_BOTTOM. -/
theorem test_setConstant_partner : seen (exec (.setConstant 7 15 500)
      { idle with clp := { idle.clp with consts := { rig with strokeBottom := 450 } } })
    (fun t => t.clp.consts.strokeTop) = some 550 := by decide

/-- R191: an id above 28 is refused. -/
theorem test_getConstant : seen (exec (.getConstant 7 29) idle) (fun t => t.clp.reply.map (·.result)) = some (some .badValue) := by
  decide

/-- R193: RESTART leaves the planes STANDBY without ties and the queue empty. -/
theorem test_restart : seen (exec (.restart 7) digging)
    (fun t => (t.oq.ops, (entryAt t 2).role, (entryAt t 2).tie, t.clp.flags)) = some ([], .standby, none, 0) := by decide

/-- Section 3.9: OPEN_SHEET(2). -/
theorem test_openSheet : seen (exec (.openSheet 7 2 ⟨header2.name, 0, 0, 100, 5, 10, 1⟩) idle) (fun t => (sheetAt t 1).body) = some (.opened header2 []) := by
  decide

/-- Steps 3 and 7 of section 3.9 are refused: a grade below MIN_GRADE, and a total above 999,999. -/
theorem test_appendSegment : seen (exec (.appendSegment 7 2 80000 80 0 0) (withSheet (.opened header2 (segments2.take 2)) 0 idle))
      (fun t => t.clp.reply.map (·.result)) = some (some .badValue)
    ∧ seen (exec (.appendSegment 7 2 70000 300 0 0) (withSheet (.opened header2 segments2) 0 idle))
      (fun t => t.clp.reply.map (·.result)) = some (some .badValue) := by decide

/-- Step 8 of section 3.9. -/
theorem test_sealSheet : seen (exec (.sealSheet 7 2) (withSheet (.opened header2 segments2) 0 idle))
    (fun t => t.clp.reply.map (·.contents)) = some (some (.sealedSheet 4 935500 2083)) := by decide

/-- R42: a sheet in use is not erased. -/
theorem test_eraseSheet : seen (exec (.eraseSheet 7 2) digging) (fun t => t.clp.reply.map (·.result)) = some (some .busy) := by
  decide

/-- Section 3.9: segment 2 lies at offset 340,000 with 630 mm of rise before it. -/
theorem test_readSheet : seen (exec (.readSheet 7 2 2) digging) (fun t => t.clp.reply.map (·.contents))
    = some (some (.segment ⟨185500, 120, .inspection, true⟩ 340000 630 223)) := by decide

/-- R19: a window that meets another entry's at one value overlaps it. -/
theorem test_definePlane : seen (exec (.definePlane 7 0 9 10 0) idle) (fun t => t.clp.reply.map (·.result))
    = some (some .overlap) := by decide

/-- R20: the ACTIVE entry is not cleared. -/
theorem test_clearPlane : seen (exec (.clearPlane 7 2) idle) (fun t => t.clp.reply.map (·.result)) = some (some .state) := by
  decide

/-- R21: the match flag is cleared once it has been read. -/
theorem test_readPlane : seen (exec (.readPlane 7 2) (modifyEntry 2 (fun e => { e with matched := true }) idle))
    (fun t => (entryAt t 2).matched) = some false := by decide

/-- R11: OFF empties the slot. -/
theorem test_mastLine : seen (exec (.mastLine 7 0) (setSlot (some ⟨7, 50, 55, 0, 0, 9, false⟩) idle))
    (fun t => (t.mlr.lineOn, t.mlr.slot)) = some (false, none) := by decide

/-- Step 5 of section 2.7: 1,200,000 is clamped to 999,999. -/
theorem test_setChainage : seen (exec (.setChainage 7 1200000) idle) (fun t => (t.cc.acc, t.clp.reply.map (·.result)))
    = some (999999000, some .clamped) := by decide

/-- R150: a LIFT drives at +800, a raise duty of 840 (section 9.7). -/
theorem test_enqueue_lift : seen (exec (.enqueue 7 32 .lift 0) idle) (fun t => (t.gl.v, t.os.raiseDuty)) = some (800, 840) := by
  decide

/-- Step 1 of section 7.9: a DIG of sheet 2, which has no START_DEPTH, benches. -/
theorem test_enqueue_dig : seen (exec (.enqueue 7 31 (.dig 2 0 3 1 0) 0) (withSheet (.sealed header2 segments2) 0 idle))
    (fun t => (t.lt.map (·.phase), (entryAt t 3).role, (entryAt t 2).role, t.oq.pause.bench))
    = some (some .benching, .active, .standby, true) := by decide

/-- R158: READ_QUEUE shows the soft-abort mark of the executing DIG. -/
theorem test_readQueue : (queueReply digging).items.map (fun i => i.running.map (·.2.2)) = [some (.dig 0 false)] := by decide

/-- R158, R183: two operations held; what is added for the executing DIG follows the fields of the waiting LIFT. -/
theorem test_readQueue_bytes : queueBytes (queueReply
      { digging with clock := 258, oq := { digging.oq with ops := digging.oq.ops ++ [waiter .lift] } })
    = [1, 2, 0,  0, 31, 0, 2, 0, 2, 1, 0, 0, 0, 0, 1,  1, 32, 3, 0, 0,  0, 0, 0, 0, 0, 0, 1, 2, 0, 0, 0, 0] := by decide

/-- R183: the operation kinds PLUNGE and HOLD are 1 and 2; a design invert of -49,950 takes 3 bytes. -/
theorem test_status_bytes : loopKindCode .plunge = 1 ∧ loopKindCode .hold = 2 ∧ listBytes 3 [-1, 258]
      = [2, 255, 255, 255, 0, 1, 2] ∧ number 3 (-49950) = [255, 60, 226] := by decide

/-- R71, R183: an absent decision record takes the bytes of a present one; R155: FAULT is the ninth reason, BAD_SEGMENT the
tenth. -/
theorem test_status_record : (optionalRecord none).length = (optionalRecord (some
      { chainage := 0, tilt := 0, drop := 0, depth := 0, line := none, errors := none, decision := .none, wanted := 0
        slewed := 0, final := 0, settle := 0, reverseHold := false, limit := .none })).length
    ∧ OpReason.fault.ctorIdx = 8 ∧ OpReason.badSegment.ctorIdx = 9 := by decide

/-- R66: a running DIG is held at the chainage as it stands. -/
theorem test_softAbort : seen (exec (.softAbort 7) digging) (fun t => t.lt.map fun r => (r.phase, r.frozen))
    = some (some (.stopping, some 123456)) := by decide

/-- R186: a broadcast STOP is not answered. -/
theorem test_stop : seen (exec (.stop true 7) digging) (fun t => (t.oq.ops, t.gl.v, t.clp.reply)) = some ([], 0, none) := by
  decide

/-- R154: a RESUME with nothing pending is refused. -/
theorem test_resume : seen (exec (.resume 7) digging) (fun t => t.clp.reply.map (·.result)) = some (some .state) := by decide

/-- Section 7.10: TIE_START(6, 3, CONFIRM) at 100,000 ms; the timer to 160,000. -/
theorem test_tieStart : seen (exec (.tieStart 7 6 3 1) { idle with clock := 100000 })
    (fun t => ((entryAt t 6).role, t.te.tie.bind (·.timer))) = some (.candidate, some 160000) := by decide

/-- Section 7.10: TIE_COMMIT at 112,000; entry 6's last strike at 111,930 gives the beam-age timer 112,330. -/
theorem test_tieCommit : seen (exec (.tieCommit 7) { digging with
      clock := 112000
      te := { digging.te with tie := some tieDone }
      pat := planes.set 6 { plane .candidate 60 64 150 none with last := some ⟨.inWindow 0, 201330, 111930⟩ } })
    (fun t => (t.gl.loop.map (·.state), (entryAt t 6).tie, (entryAt t 2).role))
    = some (some (.tracking 112330), some ⟨2596, 200000⟩, .retired) := by decide

/-- R133: with no tie in flight TIE_CANCEL is refused. -/
theorem test_tieCancel : seen (exec (.tieCancel 7) idle) (fun t => t.clp.reply.map (·.result)) = some (some .state) := by decide

/-- R138: a waiting tie shows its three pairs. -/
theorem test_readTie : (tieReply (tying { tieDone with pairs := tie3.pairs ++ [⟨200960, 2598⟩] } .candidate strike6)).progress.map
    (fun p => (p.pairs, p.extremes)) = some (3, some (2595, 2598)) := by decide

/-- Step 6 of section 9.8: CLEAR_FAULT is refused with FAULTED while the coil is open. -/
theorem test_clearFault : seen (exec (.clearFault 7)
      { idle with os := { idle.os with faulted := true, health := ⟨true, false, false⟩ } })
    (fun t => t.clp.reply.map (·.result)) = some (some .faulted) := by decide

/-- R176: Ds is L + b of the ACTIVE entry's last strike. -/
theorem test_shadowOn : seen (exec (.shadowOn 7)
      (modifyEntry 2 (fun e => { e with last := some ⟨.inWindow 4, 0, 0⟩ }) { idle with cc := { idle.cc with acc := 5000123 } }))
    (fun t => (t.sm.map fun m => (m.ds, m.setAside), t.cc.acc)) = some (some (2404, 5000123), 5000000) := by decide

/-- R181: the real chainage returns with its residue. -/
theorem test_shadowOff : seen (exec (.shadowOff 7) (shadowed 0 2400 500 none)) (fun t => (t.cc.acc, t.cc.source, t.sm))
    = some (5000123, .wheel, none) := by decide

/-- R180: a distance above 50,000 is refused, and 50,000 is not. -/
theorem test_shadowGap : seen (exec (.shadowGap 7 50000) (shadowed 0 2400 500 none)) (fun t => t.sm.bind (·.gap))
      = some (some ⟨5000, 50000⟩)
    ∧ seen (exec (.shadowGap 7 50001) (shadowed 0 2400 500 none)) (fun t => t.clp.reply.map (·.result))
      = some (some .badValue) := by decide

/-! ## WellFormed refuses an ill-formed command at each of its checks -/

theorem test_wf_tag : (Instr.poll 256).wellFormed = false ∧ (Instr.poll 255).wellFormed = true := by decide
theorem test_wf_kind : (Instr.unknownKindRequest 0 256).wellFormed = false
    ∧ (Instr.unknownKindRequest 0 16).wellFormed = false ∧ (Instr.unknownKindRequest 0 15).wellFormed = true := by decide
theorem test_wf_constant : (Instr.setConstant 0 256 0).wellFormed = false
    ∧ (Instr.setConstant 0 1 2147483648).wellFormed = false ∧ (Instr.setConstant 0 1 (-2147483649)).wellFormed = false
    ∧ (Instr.getConstant 0 256).wellFormed = false := by decide
theorem test_wf_header : (Instr.openSheet 0 256 ⟨[], 0, 0, 0, 5, 10, 0⟩).wellFormed = false
    ∧ (Instr.openSheet 0 1 ⟨List.replicate 39 0x20, 0, 0, 0, 5, 10, 0⟩).wellFormed = false
    ∧ (Instr.openSheet 0 1 ⟨[], 256, 0, 0, 5, 10, 0⟩).wellFormed = false
    ∧ (Instr.openSheet 0 1 ⟨[], 0, 65536, 0, 5, 10, 0⟩).wellFormed = false
    ∧ (Instr.openSheet 0 1 ⟨[], 0, 0, 65536, 5, 10, 0⟩).wellFormed = false
    ∧ (Instr.openSheet 0 1 ⟨[], 0, 0, 0, 256, 10, 0⟩).wellFormed = false
    ∧ (Instr.openSheet 0 1 ⟨[], 0, 0, 0, 5, 256, 0⟩).wellFormed = false
    ∧ (Instr.openSheet 0 1 ⟨[], 0, 0, 0, 5, 10, 256⟩).wellFormed = false := by decide
theorem test_wf_segment : (Instr.appendSegment 0 256 1000 0 0 0).wellFormed = false
    ∧ (Instr.appendSegment 0 1 16777216 0 0 0).wellFormed = false
    ∧ (Instr.appendSegment 0 1 1000 32768 0 0).wellFormed = false
    ∧ (Instr.appendSegment 0 1 1000 0 256 0).wellFormed = false
    ∧ (Instr.appendSegment 0 1 1000 0 0 256).wellFormed = false := by decide
theorem test_wf_sheet : (Instr.sealSheet 0 256).wellFormed = false ∧ (Instr.eraseSheet 0 256).wellFormed = false
    ∧ (Instr.readSheet 0 256 0).wellFormed = false ∧ (Instr.readSheet 0 1 256).wellFormed = false := by decide
theorem test_wf_plane : (Instr.definePlane 0 256 0 0 0).wellFormed = false
    ∧ (Instr.definePlane 0 0 256 0 0).wellFormed = false ∧ (Instr.definePlane 0 0 0 256 0).wellFormed = false
    ∧ (Instr.definePlane 0 0 0 0 (-32769)).wellFormed = false ∧ (Instr.clearPlane 0 256).wellFormed = false
    ∧ (Instr.readPlane 0 256).wellFormed = false ∧ (Instr.mastLine 0 256).wellFormed = false := by decide
theorem test_wf_operation : (Instr.enqueue 0 256 .lift 0).wellFormed = false
    ∧ (Instr.enqueue 0 0 .lift 256).wellFormed = false
    ∧ (Instr.enqueue 0 0 (.dig 256 0 0 0 0) 0).wellFormed = false
    ∧ (Instr.enqueue 0 0 (.dig 1 256 0 0 0) 0).wellFormed = false
    ∧ (Instr.enqueue 0 0 (.dig 1 0 256 0 0) 0).wellFormed = false
    ∧ (Instr.enqueue 0 0 (.dig 1 0 0 256 0) 0).wellFormed = false
    ∧ (Instr.enqueue 0 0 (.dig 1 0 0 0 16777216) 0).wellFormed = false
    ∧ (Instr.enqueue 0 0 (.plunge 65536) 0).wellFormed = false
    ∧ (Instr.enqueue 0 0 (.hold 256 0 0) 0).wellFormed = false
    ∧ (Instr.enqueue 0 0 (.hold 0 65536 0) 0).wellFormed = false
    ∧ (Instr.enqueue 0 0 (.hold 0 0 16777216) 0).wellFormed = false
    ∧ (Instr.enqueue 0 0 (.dwell 65536) 0).wellFormed = false
    ∧ (Instr.enqueue 0 0 (.unknown 4) 0).wellFormed = false
    ∧ (Instr.enqueue 0 0 (.unknown 256) 0).wellFormed = false := by decide
theorem test_wf_rest : (Instr.setChainage 0 4294967296).wellFormed = false
    ∧ (Instr.tieStart 0 256 2 0).wellFormed = false ∧ (Instr.tieStart 0 0 256 0).wellFormed = false
    ∧ (Instr.tieStart 0 0 2 256).wellFormed = false ∧ (Instr.shadowGap 0 65536).wellFormed = false := by decide

/-! ## Witnesses: states that meet the hypotheses of each clause of the statements, clause by clause -/

theorem wit_EmptyQueueTakesARequestOrAMillisecond :
    (idle.pending = [] ∧ idle.clp.inHand = [])
    ∧ (let s := { idle with clp := { idle.clp with inHand := [⟨3, 7, false, .poll 7⟩] } }
       s.pending = [] ∧ s.clp.inHand = [⟨3, 7, false, .poll 7⟩]) := by decide

theorem wit_PowerOn :
    (0 ≤ strokeReading 500000 ∧ strokeReading 500000 ≤ 1000 ∧ sound.raise.path = true ∧ sound.lower.path = true)
    ∧ (0 ≤ strokeReading 2500000 ∧ strokeReading 2500000 ≤ 1000)
    ∧ strokeReading 498000 = -1 ∧ strokeReading 2502000 = 1001 := by decide

theorem wit_FiringAppendsARecord :
    idle.clp.enables.getLsbD (eventNumber (.line .foreign)) = false
    ∧ (let p := { idle.clp with enables := 0x8000 }
       p.enables.getLsbD (eventNumber (.line .foreign)) = true ∧ p.reports.length < 8)
    ∧ (let p := { idle.clp with enables := 0x8000, reports := List.replicate 8 ⟨.line .foreign, 0, 0, 0⟩ }
       p.enables.getLsbD (eventNumber (.line .foreign)) = true ∧ 8 ≤ p.reports.length) := by decide

theorem wit_MastByteInHunting :
    idle.mlr.lineOn = true ∧ idle.mlr.rx = .hunting ∧ marked 0xB4 false true = false ∧ marked 0xB4 true true = true
    ∧ marked 0xB5 true true = false := by decide

/-- A strike of entry 2 as it waits in the slot. -/
def waiting2 : Strike := ⟨7, 50, 55, 0, 123456, 9, false⟩

/-- A strike in the slot of an idle qualifier. -/
def slotted (x : Strike) (s : State) : State := setSlot (some x) s

theorem wit_MastByteInCollecting :
    (let s := setMastRx (.collecting [0xB4, 7, 50, 55] 2) idle
     s.mlr.lineOn = true ∧ s.mlr.rx = .collecting [0xB4, 7, 50, 55] 2 ∧ marked 0xB4 false true = false)
    ∧ marked 0xB4 false false = true
    ∧ (marked 143 true true = false ∧ (143 : Byte) = ~~~(7 + 50 + 55 + 0))
    ∧ (marked 142 false true = false ∧ (142 : Byte) ≠ ~~~(7 + 50 + 55 + 0))
    ∧ (let s := setMastRx (.collecting [0xB4, 7, 50, 55, 0] 2) (withCounters (fun c => { c with damaged := 15 }) idle)
       s.mlr.lineOn = true ∧ s.mlr.rx = .collecting [0xB4, 7, 50, 55, 0] 2 ∧ s.sm = none ∧ s.mlr.slot = none
         ∧ (s.clp.counters.damaged + 1) % 16 = 0)
    ∧ (let s := slotted waiting2 (setMastRx (.collecting [0xB4, 7, 50, 55, 0] 2)
         (withCounters (fun c => { c with overrun := 31 }) idle))
       s.mlr.lineOn = true ∧ s.mlr.rx = .collecting [0xB4, 7, 50, 55, 0] 2 ∧ s.sm = none ∧ s.mlr.slot ≠ none
         ∧ (s.clp.counters.overrun + 1) % 16 = 0)
    ∧ (let s := setMastRx (.collecting [0xB4, 7, 50, 55, 0] 2) (shadowed 0 2400 500 none)
       s.mlr.lineOn = true ∧ s.mlr.rx = .collecting [0xB4, 7, 50, 55, 0] 2 ∧ s.sm ≠ none) := by decide

theorem wit_MastLineOffAndOn : idle.mlr.lineOn = true
    ∧ { idle with mlr := { idle.mlr with lineOn := false } }.mlr.lineOn = false := by decide

theorem wit_StrikeTakeValidatesAndDrops :
    (validate ⟨7, 0, 11, 0, 0, 0, false⟩ = some (.inWindow (-84)) ∧ validate ⟨7, 95, 95, 0, 0, 0, false⟩ = some (.inWindow 95)
      ∧ validate ⟨7, 0, 0, 0, 0, 0, false⟩ = some (.inWindow (-95)) ∧ (⟨7, 0, 0, 4, 0, 0, false⟩ : Strike).status.toNat = 4
      ∧ (⟨7, 0, 0, 1, 0, 0, false⟩ : Strike).status = 1 ∧ (⟨7, 0, 0, 2, 0, 0, false⟩ : Strike).status = 2
      ∧ (⟨7, 0, 0, 3, 0, 0, false⟩ : Strike).status = 3)
    ∧ ((⟨7, 1, 0, 0, 0, 0, false⟩ : Strike).last.toNat < (⟨7, 1, 0, 0, 0, 0, false⟩ : Strike).first.toNat
      ∧ 95 < (⟨7, 90, 96, 0, 0, 0, false⟩ : Strike).last.toNat
      ∧ (⟨7, 0, 12, 0, 0, 0, false⟩ : Strike).first.toNat + 12 ≤ (⟨7, 0, 12, 0, 0, 0, false⟩ : Strike).last.toNat)
    ∧ (let x : Strike := ⟨7, 0, 12, 0, 0, 0, false⟩
       (slotted x idle).mlr.slot = some x ∧ qualifierIdle (slotted x idle) = true ∧ validate x = none)
    ∧ (let x : Strike := ⟨120, 50, 55, 0, 0, 0, false⟩
       let s := { slotted x idle with sq := { idle.sq with foreignLatch := true } }
       s.mlr.slot = some x ∧ qualifierIdle s = true ∧ validate x = some (.inWindow 10) ∧ matchingEntry s 120 = none
         ∧ s.sq.foreignLatch = true ∧ (slotted x idle).sq.foreignLatch = false) := by decide

theorem wit_StrikeTakeRecordsAndRoutes :
    ((slotted waiting2 digging).mlr.slot = some waiting2 ∧ qualifierIdle (slotted waiting2 digging) = true
      ∧ validate waiting2 = some (.inWindow 10) ∧ matchingEntry (slotted waiting2 digging) waiting2.sig.toNat = some 2
      ∧ (entryAt digging 2).role = .active ∧ executingKind digging = some .dig ∧ runPhase digging = some .running)
    ∧ (executingKind (benching true []) = some .dig ∧ runPhase (benching true []) = some .benching)
    ∧ executingKind (holding .acquiring) = some .hold ∧ executingKind (withOps [head .lift false] idle) = some .lift
    ∧ executingKind idle = none
    ∧ (let x : Strike := ⟨62, 50, 55, 0, 0, 9, false⟩
       let s := slotted x { tying tie3 .candidate strike6 with sq := idle.sq }
       s.mlr.slot = some x ∧ qualifierIdle s = true ∧ validate x = some (.inWindow 10)
         ∧ matchingEntry s x.sig.toNat = some 6 ∧ (entryAt s 6).role = .candidate)
    ∧ (let x : Strike := ⟨44, 50, 55, 0, 0, 9, false⟩
       matchingEntry (slotted x idle) x.sig.toNat = some 3 ∧ (entryAt idle 3).role = .standby) := by decide

theorem wit_DefinePlane :
    (inWork (entryAt idle 0).role = false ∧ overlapsOther 0 10 39 idle = false)
    ∧ inWork (entryAt idle 2).role = true ∧ overlapsOther 0 9 9 idle = true := by decide

theorem wit_ClearPlane : (entryAt idle 3).role ≠ .active ∧ (entryAt idle 3).role ≠ .candidate
    ∧ (entryAt idle 2).role = .active ∧ entryAt idle 0 = PlaneEntry.cleared := by decide

theorem wit_WheelTransition :
    (let s := { idle with cc := { idle.cc with acc := 5500 }, clp := { idle.clp with consts := { rig with wheelPitch := 499 } } }
     s.cc.pair = ⟨false, false⟩ ∧ s.cc.source = .wheel ∧ s.cc.acc + s.clp.consts.wheelPitch < 999999999
       ∧ 0 < s.clp.consts.wheelPitch ∧ (s.cc.acc + s.clp.consts.wheelPitch) / 1000 = s.cc.acc / 1000
       ∧ s.clp.consts.wheelPitch < s.cc.acc ∧ s.cc.acc < 999999999
       ∧ (s.cc.acc - s.clp.consts.wheelPitch) / 1000 = s.cc.acc / 1000)
    ∧ (shadowed 0 2400 500 none).cc.source = .shadow := by decide

/-- An idle part at an accumulator value. -/
def idleAt (acc : Nat) : State := { idle with cc := { idle.cc with acc := acc, anchor := acc / 1000 } }

theorem wit_StepAtRest :
    ((idleAt 994999999).cc.source = .wheel ∧ atRest (idleAt 994999999)
      ∧ 0 < steppedTo true (idleAt 994999999) ∧ steppedTo true (idleAt 994999999) < 999999999)
    ∧ (let s := idleAt 999997000
       s.cc.source = .wheel ∧ atRest s ∧ 999999999 < s.cc.acc + s.clp.consts.wheelPitch ∧ s.cc.limitLatch = false)
    ∧ (let s := { idleAt 4999 with cc := { (idleAt 4999).cc with limitLatch := true } }
       s.cc.source = .wheel ∧ atRest s ∧ s.cc.acc < s.clp.consts.wheelPitch ∧ s.cc.limitLatch = true)
    ∧ ((idleAt 999994999).cc.acc + (idleAt 999994999).clp.consts.wheelPitch = 999999999
      ∧ (idleAt 5000).cc.acc = (idleAt 5000).clp.consts.wheelPitch ∧ 0 < (idleAt 5000).clp.consts.wheelPitch)
    ∧ (let s := { idleAt 5999 with cc := { (idleAt 5999).cc with anchor := 4 } }
       steppedTo true s / 1000 ≠ s.cc.acc / 1000 ∧ s.cc.anchor + 5 < steppedTo true s / 1000)
    ∧ (let s := { idleAt 6000 with cc := { (idleAt 6000).cc with anchor := 7 } }
       steppedTo false s / 1000 ≠ s.cc.acc / 1000 ∧ steppedTo false s / 1000 + 5 < s.cc.anchor)
    ∧ (let s := idleAt 5000
       steppedTo true s / 1000 ≤ s.cc.anchor + 5 ∧ s.cc.anchor ≤ steppedTo true s / 1000 + 5) := by decide

/-- The run of section 5.11 one step of 5 mm short of a chainage, its DIG tracking, the beam lately seen. -/
def nearing (r : RunCtx) (c high : Nat) (how : Stillness) : State :=
  { digging with
    lt := some r
    cc := { digging.cc with acc := 1000 * c - 5000, chw := some high, still := how } }

/-- The hypotheses common to the clauses of TravelDuringARun. -/
def travels (r : RunCtx) (c high : Nat) (how : Stillness) : Prop :=
  let s := nearing r c high how
  stepsFreely true s ∧ s.sm = none ∧ s.lt = some r ∧ s.cc.chw = some high ∧ chainage s ≤ high
    ∧ s.gl.loop = some { loopOf .dig (.tracking 400) .absent with window := [22, 26, 28] } ∧ s.te.tie = none
    ∧ s.te.bench = none ∧ executingKind s = some .dig ∧ steppedTo true s / 1000 = c

/-- The run of section 5.11 in its last segment. -/
def lastRun : RunCtx :=
  { run1 with
    cur := { index := 3, cs := 525500, invert := 853, grade := 300, length := 410000, marker := .headEnd, stopAtEnd := false }
    staged := none }

theorem wit_TravelDuringARun :
    (travels run1 123456 123456 .moving ∧ travels run1 123456 123451 .moving ∧ (123456 < 340000))
    ∧ (travels run1 340000 339995 .moving ∧ run1.phase = .running ∧ run1.staged = some ⟨2, 340000, 630⟩
      ∧ run1.cur.stopAtEnd = false ∧ run1.cur.cs + run1.cur.length = 340000
      ∧ (headerIn (sheetAt digging run1.sheet).body).map (·.autoAdvance) = some true
      ∧ (segmentsOf (sheetAt digging run1.sheet).body)[2]? = some ⟨185500, 120, .inspection, true⟩
      ∧ 340000 < 340000 + 185500)
    ∧ (let r := { run1 with cur := { run1.cur with stopAtEnd := true } }
       travels r 340000 339995 .moving ∧ r.phase = .running ∧ r.staged = some ⟨2, 340000, 630⟩ ∧ r.cur.stopAtEnd = true)
    ∧ (travels lastRun 935500 935495 .moving ∧ lastRun.phase = .running ∧ lastRun.staged = none
      ∧ lastRun.cur.cs + lastRun.cur.length = 935500)
    ∧ (travels lastRun 935500 935495 .still
      ∧ (nearing lastRun 935500 935495 .still).oq.ops = [head (.dig 1 0 2 (some 0)) false]) := by
  refine ⟨⟨?_, ?_, by decide⟩, ⟨?_, by decide⟩, ⟨?_, by decide⟩, ⟨?_, by decide⟩, ⟨?_, by decide⟩⟩ <;>
    (unfold travels; decide)

/-- A HOLD alone in the queue of a part about to step, in a loop state and with operations behind it. -/
def watched (state : LoopState) (standing : Bool) (behind : List Operation) : State :=
  let s := holding state
  { s with
    cc := { s.cc with acc := 2009000 }
    oq := { s.oq with ops := { head (.hold (some 2400) 1000) standing with state := .executing ⟨0, 1, 1014, 0⟩ } :: behind } }

/-- The hypotheses common to the clauses of TravelMeetsTheLimits for a part with no high-water chainage. -/
def stepsTo (forward : Bool) (c : Nat) (s : State) : Prop :=
  stepsFreely forward s ∧ s.cc.chw = none ∧ steppedTo forward s / 1000 = c

/-- A HOLD short of its distance in a loop state. -/
def watchedShort (state : LoopState) : State :=
  let s := watched state false []
  { s with oq := { s.oq with ops := [{ head (.hold (some 2400) 1000) false with state := .executing ⟨0, 1, 1015, 0⟩ }] } }

theorem wit_TravelMeetsTheLimits :
    (stepsTo true 2014 (watchedShort (.coasting 1013 3)) ∧ 1013 + rig.coastDist < 2014
      ∧ (watchedShort (.coasting 1013 3)).te.bench = none ∧ (watchedShort (.coasting 1013 3)).te.tie = none
      ∧ 2014 < 1015 + 1000 ∧ (2014 ≤ 1014 + rig.coastDist))
    ∧ (stepsTo false 2004 (watchedShort (.coasting 1013 3)))
    ∧ (stepsTo true 2014 (watchedShort (.searching .up 150 513 3000 1 2)) ∧ 513 + rig.searchDist < 2014
      ∧ 2014 ≤ 514 + rig.searchDist)
    ∧ (let s0 := benching true [2449]
       let s : State := { s0 with cc := { s0.cc with acc := 37000, chw := some 42 } }
       stepsFreely true s ∧ s.cc.chw = some 42 ∧ steppedTo true s / 1000 = 42 ∧ s.te.bench = some (⟨true, [2449], some 21, 1, 1⟩)
         ∧ 21 + 20 < 42 ∧ s.gl.loop = some (loopOf .dig .acquiring .absent) ∧ s.te.tie = none ∧ executingKind s = some .dig)
    ∧ (let s0 := tying tie3 .candidate strike6
       let s : State := { s0 with cc := { s0.cc with acc := 1000 * (199898 + rig.tieDist) - 4000 } }
       stepsTo true (199898 + rig.tieDist + 1) s ∧ s.te.tie = some tie3 ∧ tie3.result = none ∧ s.te.bench = none
         ∧ s.gl.loop = none ∧ executing s = none)
    ∧ (stepsTo true 2014 (watched (.tracking 400) false []) ∧ 1014 + 1000 ≤ 2014
      ∧ (watched (.tracking 400) false []).te.bench = none ∧ (watched (.tracking 400) false []).te.tie = none)
    ∧ stepsTo true 2014 (watched (.tracking 400) true [])
    ∧ stepsTo true 2014 (watched (.tracking 400) false [waiter (.dwell 100)]) := by
  refine ⟨?_, ?_, ?_, ?_, ?_, ?_, ?_, ?_⟩ <;> (try unfold stepsTo) <;> decide

theorem wit_SetChainage :
    (atRest idle ∧ idle.sm = none) ∧ holdsDig digging = true ∧ (shadowed 0 2400 500 none).sm ≠ none
    ∧ (let s := holding (.coasting 7 8)
       holdsDig s = false ∧ s.sm = none ∧ s.gl.loop = some (loopOf .hold (.coasting 7 8) (.given 2400))
         ∧ s.oq.ops = [head (.hold (some 2400) 1000) false])
    ∧ (let s := holding (.searching .up 150 7 8 1 9)
       s.gl.loop = some (loopOf .hold (.searching .up 150 7 8 1 9) (.given 2400)))
    ∧ (tying tie3 .candidate strike6).te.tie = some tie3 ∧ tie3.result = none
    ∧ (tying tieDone .candidate strike6).te.tie = some tieDone ∧ tieDone.result ≠ none := by decide

theorem wit_StillnessTimerExpiry :
    (digging.cc.stillTimer = some 1000 ∧ runPhase digging ≠ some .ended ∧ runPhase digging ≠ some .stopping)
    ∧ (let op := head (.dig 1 0 2 (some 0)) false
       let s := { digging with lt := some { run1 with phase := .ended } }
       s.cc.stillTimer = some 1000 ∧ runPhase s = some .ended ∧ s.oq.ops = [op] ∧ kindOf op.params = .dig)
    ∧ runPhase { digging with lt := some { run1 with phase := .stopping } } = some .stopping := by decide

theorem wit_SheetRequests :
    headerOf ⟨header2.name, 0, 0, 100, 5, 10, 1⟩ = some header2
    ∧ ((sheetAt idle 1).inUse = 0 ∧ sheetState (sheetAt idle 1).body ≠ .opened)
    ∧ 0 < (sheetAt digging 1).inUse
    ∧ (let s := withSheet (.opened header2 []) 0 idle
       (sheetAt s 1).inUse = 0 ∧ sheetState (sheetAt s 1).body = .opened)
    ∧ ((sheetAt (withSheet (.opened header2 segments2) 0 idle) 1).body = .opened header2 segments2 ∧ markerOf 0 = some .none
      ∧ segments2.length < 20 ∧ header2.minGrade ≤ 100 ∧ (segments2.map (·.length)).sum + 64499 = 999999)
    ∧ (let l := List.replicate 20 (⟨1000, 100, .none, false⟩ : Segment)
       (sheetAt (withSheet (.opened header2 l) 0 idle) 1).body = .opened header2 l ∧ l.length = 20)
    ∧ segments2 ≠ [] ∧ (sheetAt digging 1).body = .sealed header2 segments2 ∧ (sheetAt idle 1).body = .empty
    ∧ (sheetAt (withSheet (.opened header2 []) 0 idle) 1).body = .opened header2 []
    ∧ (segmentsOf (sheetAt digging 1).body)[3]? = some ⟨410000, 300, .headEnd, false⟩
    ∧ (segmentsOf (sheetAt digging 1).body).length = 4 := by decide

theorem wit_EraseSheet : (sheetAt idle 5).inUse = 0 ∧ 0 < (sheetAt digging 1).inUse := by decide

theorem wit_TrackingStrikeIsComputed :
    (let s := handed (.inWindow 10) digging
     let l := { loopOf .dig (.tracking 400) .absent with window := [22, 26, 28] }
     loopHas (strikeOf (.inWindow 10) 123456 0) l s ∧ l.state = .tracking 400 ∧ tiltUnclamped s ∧ l.target ≠ .unlatched
       ∧ strikeTarget (strikeOf (.inWindow 10) 123456 0) l s = some (2376, some ⟨123456, 2573, 197⟩))
    ∧ (let s0 := holding .acquiring
       let l := { loopOf .plunge .acquiring (.given 2400) with holdCount := 1 }
       let s := handed (.inWindow 0) { s0 with gl := { s0.gl with loop := some l } }
       loopHas (strikeOf (.inWindow 0) 0 0) l s ∧ l.state = .acquiring ∧ tiltUnclamped s ∧ l.target ≠ .unlatched
         ∧ strikeTarget (strikeOf (.inWindow 0) 0 0) l s = some (2400, none) ∧ l.kind = .plunge ∧ l.holdCount < 2) := by
  decide

theorem wit_TiltClampAndLatching :
    (let s0 := handed (.inWindow 10) digging
     let s : State := { s0 with os := { s0.os with tilt := 1205 } }
     let l := { loopOf .dig (.tracking 400) .absent with window := [22, 26, 28] }
     s.sm = none ∧ 120 < (roundDiv s.os.tilt 10).natAbs ∧ loopHas (strikeOf (.inWindow 10) 123456 0) l s
       ∧ l.state = .tracking 400 ∧ s.clp.consts.strokeBottom < s.os.stroke)
    ∧ (let s0 := benchHanded true [2449] 49 21
       let s : State := { s0 with os := { s0.os with tilt := -1205 } }
       120 < (roundDiv s.os.tilt 10).natAbs ∧ s.sq.toBench = some (strikeOf (.inWindow 49) 21 0)
         ∧ activeEntry s = some 2 ∧ s.te.bench = some ⟨true, [2449], some 21, 1, 1⟩ ∧ movedFrom 21 21 = false
         ∧ 1 + 1 < s.clp.consts.benchStrikes)
    ∧ (let r := { tie3 with activeSlot := none }
       let s0 := tying r .candidate strike6
       let s : State := { s0 with os := { s0.os with tilt := 3000 } }
       s.sm = none ∧ 120 < (roundDiv s.os.tilt 10).natAbs ∧ s.sq.toTie = some (.candidate, strike6)
         ∧ (entryAt s strike6.entry).role = .candidate ∧ s.te.tie = some r ∧ r.result = none)
    ∧ (let l := loopOf .hold (.tracking 400) .unlatched
       let s := handed (.inWindow 10) { holding .acquiring with gl := { v := 150, loop := some l } }
       loopHas (strikeOf (.inWindow 10) 0 0) l s ∧ l.kind = .hold ∧ l.state = .tracking 400
         ∧ l.target = .unlatched) := by decide

theorem wit_TargetOfAStrike :
    (let l := loopOf .dig (.tracking 400) .absent
     l.target = .absent ∧ digging.lt = some run1 ∧ (entryAt digging 2).tie = some ⟨2450, 0⟩ ∧ run1.phase = .running
       ∧ min 340001 (run1.cur.cs + run1.cur.length) = 340000)
    ∧ (let r := { run1 with phase := .segmentHold, frozen := some 340000 }
       { digging with lt := some r }.lt = some r ∧ r.frozen = some 340000)
    ∧ (let r := { run1 with phase := .stopping, unbenched := true }
       { digging with lt := some r }.lt = some r ∧ r.unbenched = true)
    ∧ (entryAt digging 3).tie = none
    ∧ (let l := loopOf .dig (.tracking 400) .absent
       let s0 := { digging with pat := planes.set 2 (plane .active 5 9 100 none), gl := { v := 150, loop := some l } }
       let s := handed (.inWindow 10) s0
       loopHas (strikeOf (.inWindow 10) 123456 0) l s ∧ l.state = .tracking 400 ∧ tiltUnclamped s
         ∧ l.target ≠ .unlatched ∧ strikeTarget (strikeOf (.inWindow 10) 123456 0) l s = none)
    ∧ (handed .split digging).sq.toLoop = some (strikeOf .split 123456 0)
    ∧ (handed .above idle).gl.loop = none
    ∧ activeEntry (modifyEntry 2 (fun e => { e with role := .retired }) (handed .above digging)) ≠ some 2 := by decide

/-- A HOLD in some loop state with a strike handed to it. -/
def holdHas (st : LoopState) (beam : Beam) : Prop :=
  loopHas (strikeOf beam 0 0) (loopOf .hold st (.given 2400)) (handed beam (holding st))

theorem wit_StrikeOutsideTheWindow :
    (holdHas .acquiring .above ∧ holdHas (.tracking 400) .below ∧ holdHas (.coasting 0 0) .above)
    ∧ pointsTo .above .up ∧ pointsTo .below .down
    ∧ holdHas (.searching .up 150 0 3000 0 0) .above
    ∧ holdHas (.searching (reversed .up) 150 0 3000 1 0) .above
    ∧ holdHas (.searching (reversed .up) 150 0 3000 2 0) .above := by
  refine ⟨⟨?_, ?_, ?_⟩, ?_, ?_, ?_, ?_, ?_⟩ <;> first | decide | exact ⟨by decide, by decide, by decide⟩

theorem wit_LostDriveAndLoopTimers :
    (holdHas (.lost none) .above ∧ holdHas (.lost (some ⟨.up, 150, 3000⟩)) .above
      ∧ holdHas (.lost (some ⟨reversed .up, 150, 3000⟩)) .above)
    ∧ (holding (.tracking 400)).gl.loop = some (loopOf .hold (.tracking 400) (.given 2400))
    ∧ (holding (.searching .up 150 0 3000 2 0)).gl.loop = some (loopOf .hold (.searching .up 150 0 3000 2 0) (.given 2400))
    ∧ (holding (.lost (some ⟨.up, 150, 3000⟩))).gl.loop = some (loopOf .hold (.lost (some ⟨.up, 150, 3000⟩)) (.given 2400)) := by
  refine ⟨⟨?_, ?_, ?_⟩, by decide⟩ <;> exact ⟨by decide, by decide, by decide⟩

theorem wit_BeamRegained :
    holdHas (.coasting 0 0) (.inWindow 0) ∧ holdHas (.searching .down 150 0 3000 2 0) (.inWindow 0)
    ∧ holdHas (.lost none) (.inWindow 0) := by
  refine ⟨?_, ?_, ?_⟩ <;> exact ⟨by decide, by decide, by decide⟩

theorem wit_DecisionAndDrive : ((10 : Int) < 11 ∧ (-6 : Int) < -5) ∧ ((1 : Int) * -1 < 0)
    ∧ ((0 : Int) ≤ 2 * 3 ∧ (2 : Int).natAbs ≤ (3 : Int).natAbs) ∧ ((3 : Int).natAbs + 25 < (29 : Int).natAbs)
    ∧ ((3 : Int).natAbs < (28 : Int).natAbs ∧ (28 : Int).natAbs ≤ (3 : Int).natAbs + 25)
    ∧ (([1, 2, 3] : List Int).length < 4 ∧ ([2, 3, 4] : List Int).length = 3) := by decide

/-- The hypotheses common to the clauses of BenchStrike. -/
def benchHas (q : QStrike) (b : Int) (c : Bench) (s : State) : Prop :=
  s.sq.toBench = some q ∧ activeEntry s = some q.entry ∧ q.beam = .inWindow b ∧ s.te.bench = some c ∧ tiltUnclamped s

/-- The collector of `benching`. -/
def collector (sampling : Bool) (samples : List Int) : Bench := ⟨sampling, samples, if samples.isEmpty then none else some 21, 1, 1⟩

theorem wit_BenchStrike :
    benchHas (strikeOf (.inWindow 49) 21 0) 49 (collector false []) (benchHanded false [] 49 21)
    ∧ (benchHas (strikeOf (.inWindow 49) 41 0) 49 (collector true [2449]) (benchHanded true [2449] 49 41)
        ∧ movedFrom 21 41 = false)
    ∧ (benchHas (strikeOf (.inWindow 49) 42 0) 49 (collector true [2449]) (benchHanded true [2449] 49 42) ∧ 21 + 20 < 42)
    ∧ (let l : List Int := [2449, 2451, 2450, 2452, 2448, 2450, 2451]
       benchHas (strikeOf (.inWindow 46) 21 0) 46 (collector true l) (benchHanded true l 46 21)
         ∧ measuredDepth 46 (benchHanded true l 46 21) = 2446 ∧ spreadOf (l ++ [2446]) = 6
         ∧ (benchHanded true l 46 21).clp.consts.benchStrikes = 8 ∧ (benchHanded true l 46 21).cc.chw = some 21
         ∧ (benchHanded true l 46 21).lt.map (fun r => r.cur.cs + r.cur.length) = some 100000)
    ∧ (let l : List Int := [2449, 2451, 2450, 2452, 2448, 2450, 2451]
       benchHas (strikeOf (.inWindow 45) 41 0) 45 (collector true l) (benchHanded true l 45 41)
         ∧ measuredDepth 45 (benchHanded true l 45 41) = 2445 ∧ spreadOf (l ++ [2445]) = 7
         ∧ (benchHanded true l 45 41).clp.consts.tieTolerance = 6) := by
  refine ⟨?_, ⟨?_, by decide⟩, ⟨?_, by decide⟩, ⟨?_, by decide⟩, ?_, by decide⟩ <;>
    exact ⟨by decide, by decide, by decide, by decide, by decide⟩

/-- The hypotheses common to the clauses of TieStrike. -/
def tieHas (stream : TieStream) (q : QStrike) (b : Int) (r : TieRecord) (s : State) : Prop :=
  s.te.tie = some r ∧ r.result = none ∧ q.beam = .inWindow b ∧ tiltUnclamped s ∧ s.sq.toTie = some (stream, q)

/-- A strike of entry 2 during the tie. -/
def strike2 : QStrike := { entry := 2, beam := .inWindow 10, chainage := 200980, time := 108930 }

theorem wit_TieStrike :
    (let r := { tie3 with activeSlot := none }
     tieHas .candidate strike6 (-43) r (tying r .candidate strike6)
       ∧ (entryAt (tying r .candidate strike6) 6).role = .candidate)
    ∧ (let r := { tie3 with activeSlot := some ⟨2409, 200949, 108850⟩ }
       tieHas .candidate strike6 (-43) r (tying r .candidate strike6)
         ∧ ¬closeTo rig ⟨2357, 200970, 108930⟩ ⟨2409, 200949, 108850⟩)
    ∧ (tieHas .active strike2 10 tie3 (tying tie3 .active strike2)
       ∧ (entryAt (tying tie3 .active strike2) 2).role = .active ∧ tie3.candidateSlot = none)
    ∧ (let r := { tie3 with n := 4, activeSlot := some ⟨2409, 200950, 108680⟩ }
       let s := tying r .candidate strike6
       tieHas .candidate strike6 (-43) r s ∧ makesPair strike6 r ⟨2357, 200970, 108930⟩ ⟨2409, 200950, 108680⟩ ⟨2357, 200970, 108930⟩ s
         ∧ measuredDepth (-43) s = 2357 ∧ activeEntry s = some 2
         ∧ (entryAt s 2).tie = some ⟨2450, 0⟩ ∧ r.pairs.length + 1 < r.n ∧ 200970 ≤ 200950 + rig.pairWindow
         ∧ (108930 - 108680 : Time).toNat = rig.pairTime)
    ∧ (let r := { tie3 with n := 4, activeSlot := none, candidateSlot := some ⟨2357, 200970, 108930⟩ }
       let s := tying r .active strike2
       tieHas .active strike2 10 r s ∧ measuredDepth 10 s = 2410
         ∧ makesPair strike2 r ⟨2410, 200980, 108930⟩ ⟨2410, 200980, 108930⟩ ⟨2357, 200970, 108930⟩ s) := by
  refine ⟨⟨?_, by decide⟩, ⟨?_, by decide⟩, ⟨?_, by decide⟩, ⟨?_, by decide⟩, ⟨?_, by decide⟩⟩ <;>
    exact ⟨by decide, by decide, by decide, by decide, by decide⟩

/-- The tie r with the strike that completes it, entry 2 being tied at height pb. -/
def lastPair (r : TieRecord) (pb : Int) : State :=
  let s := tying r .candidate strike6
  { s with pat := s.pat.set 2 (plane .active 5 9 100 (some ⟨pb, 0⟩)) }

/-- The estimates of the tie r with its last pair. -/
def estimates (r : TieRecord) (pb : Int) : List Int :=
  (withPair r ⟨2409, 200960, 108850⟩ ⟨2357, 200970, 108930⟩ 2 ⟨pb, 0⟩ (lastPair r pb)).pairs.map (·.estimate)

/-- The hypotheses common to the clauses of TieCompletes. -/
def completes (r : TieRecord) (pb : Int) : Prop :=
  let s := lastPair r pb
  let x : SlotStrike := ⟨2357, 200970, 108930⟩
  tieHas .candidate strike6 (-43) r s ∧ measuredDepth (-43) s = 2357 ∧ makesPair strike6 r x ⟨2409, 200960, 108850⟩ x s
    ∧ (activeEntry s = some 2 ∧ (entryAt s 2).tie = some ⟨pb, 0⟩ ∧ (2 : Fin 8) ≠ r.candidate)
    ∧ r.pairs.length + 1 = r.n

theorem wit_TieCompletes :
    (let r := { tie3 with pairs := [⟨200000, 2595⟩, ⟨200480, 2591⟩] }
     completes r 2450 ∧ spreadOf (estimates r 2450) = 7 ∧ rig.tieTolerance = 6)
    ∧ (let r := { tie3 with pairs := [⟨200000, 10001⟩, ⟨200480, 10001⟩] }
       completes r 9853 ∧ spreadOf (estimates r 9853) = 0 ∧ roundDiv (estimates r 9853).sum 3 = 10001)
    ∧ (completes tie3 2450 ∧ spreadOf (estimates tie3 2450) = 3 ∧ roundDiv (estimates tie3 2450).sum 3 = 2596
      ∧ tie3.mode = .confirm)
    ∧ (let r := { tie3 with mode := .auto }
       completes r 2450 ∧ spreadOf (estimates r 2450) = 3 ∧ roundDiv (estimates r 2450).sum 3 = 2596) := by
  refine ⟨⟨?_, by decide⟩, ⟨?_, by decide⟩, ⟨?_, by decide⟩, ⟨?_, by decide⟩⟩ <;>
    exact ⟨⟨by decide, by decide, by decide, by decide, by decide⟩, by decide, by decide, by decide, by decide⟩

theorem wit_TieStartAndItsEnds :
    (idle.te.tie = none ∧ activeEntry idle = some 2 ∧ (entryAt idle 2).tie = some ⟨2450, 0⟩
      ∧ (entryAt idle 6).role = .standby ∧ idle.os.faulted = false)
    ∧ (tying tie3 .candidate strike6).te.tie = some tie3 ∧ tie3.timer ≠ none := by decide

/-- A part with the result of section 7.10 waiting, and a loop in some state. -/
def committing (l : Option LoopCtx) : State :=
  { tying tieDone .candidate strike6 with gl := { v := 0, loop := l } }

/-- The same part with a COASTING loop and a last strike of the candidate. -/
def committingTo (beam : Beam) (clock time : Time) : State :=
  modifyEntry 6 (fun e => { e with last := some ⟨beam, 201330, time⟩ })
    { committing (some (loopOf .hold (.coasting 7 8) (.latched 2400))) with clock := clock }

theorem wit_TieCommitTransfersTheActiveRole :
    (idle.te.tie = none ∧ (tying tie3 .candidate strike6).te.tie = some tie3 ∧ tie3.result = none)
    ∧ (let s := committing none
       s.te.tie = some tieDone ∧ tieDone.result = some ⟨⟨2596, 200000⟩, 3⟩ ∧ activeEntry s = some 2
       ∧ (2 : Fin 8) ≠ tieDone.candidate ∧ s.gl.loop = none)
    ∧ (let l := loopOf .hold .acquiring (.given 2400)
       (committing (some l)).gl.loop = some l ∧ l.state = .acquiring)
    ∧ (let l := loopOf .hold (.lost (some ⟨.up, 150, 7⟩)) (.given 2400)
       (committing (some l)).gl.loop = some l ∧ l.state = .lost (some ⟨.up, 150, 7⟩))
    ∧ (let s := committingTo (.inWindow 0) 112329 111930
       s.te.tie = some tieDone ∧ activeEntry s = some 2
         ∧ s.gl.loop = some (loopOf .hold (.coasting 7 8) (.latched 2400))
         ∧ (entryAt s 6).last = some ⟨.inWindow 0, 201330, 111930⟩ ∧ s.clp.consts.lossTime = 400
         ∧ (s.clock - 111930).toNat = 399)
    ∧ (let s := committingTo (.inWindow 0) 112330 111930
       (entryAt s 6).last = some ⟨.inWindow 0, 201330, 111930⟩ ∧ (s.clock - 111930).toNat = 400)
    ∧ (entryAt (committingTo .above 112000 111930) 6).last.map (·.beam) = some .above
    ∧ (entryAt (committingTo .below 112000 111930) 6).last.map (·.beam) = some .below
    ∧ (entryAt (committingTo .split 112000 111930) 6).last.map (·.beam) = some .split
    ∧ (let l := loopOf .hold (.tracking 400) (.given 2400)
       (committing (some l)).gl.loop = some l ∧ (entryAt (committing (some l)) 6).last = none) := by decide

theorem wit_EnqueueWaitsOrStarts :
    (let s := withOps [head .lift false, waiter .lift, waiter .lift] idle
     s.oq.ops ≠ [] ∧ s.oq.ops.length < 4 ∧ s.oq.seq ≠ .faulted ∧ operationOf 9 .lift 0 = some { waiter .lift with tag := 9 }
       ∧ unsealedDig .lift s = false)
    ∧ (withOps [head .lift false, waiter .lift, waiter .lift, waiter .lift] idle).oq.ops.length = 4
    ∧ (idle.oq.ops = [] ∧ idle.oq.seq = .idle ∧ strokeSeen idle < idle.clp.consts.strokeTop ∧ activeEntry idle = some 2)
    ∧ activeEntry State.reset = none ∧ State.reset.oq.ops = [] ∧ State.reset.oq.seq = .idle
    ∧ operationOf 9 (.plunge 300) 0 = some { tag := 9, params := .plunge 300, standing := false, state := .waiting }
    ∧ operationOf 9 (.hold 0 0 100) 1 = some { tag := 9, params := .hold none 100, standing := true, state := .waiting }
    ∧ ((∀ d, some 4595 = some d → 300 ≤ d ∧ d ≤ 4595) ∧ (some 4595).isSome.toNat = 1 ∧ (some 4595).getD 0 = 4595) := by
  refine ⟨by decide, by decide, by decide, by decide, by decide, by decide, by decide, by decide, fun d h => ?_, rfl, rfl⟩
  cases h
  decide

/-- A part whose sheet 2 is sealed and a tie in flight, to which a DIG is given. -/
def sealedAndTying : State := withSheet (.sealed header2 segments2) 0 (tying tie3 .candidate strike6)

theorem wit_EnqueueStartsADig :
    (let s := withSheet (.sealed header2 segments2) 0 idle
     s.oq.ops = [] ∧ s.oq.seq = .idle ∧ s.te.tie = none ∧ (sheetAt s 1).body = .sealed header2 segments2
       ∧ segments2[3]? = some ⟨410000, 300, .headEnd, false⟩ ∧ 589999 + ((segments2.drop 3).map (·.length)).sum = 999999
       ∧ (entryAt s 3).role = .standby ∧ (entryAt s 2).role = .active ∧ header2.startDepth = none ∧ PlaneLaw s)
    ∧ (let h := { header2 with startDepth := some 2000 }
       (sheetAt (withSheet (.sealed h segments2) 0 idle) 1).body = .sealed h segments2)
    ∧ (segments2.length = 4 ∧ (entryAt idle 0).role = .empty)
    ∧ (sealedAndTying.oq.ops = [] ∧ sealedAndTying.oq.seq = .idle
      ∧ (sheetAt sealedAndTying 1).body = .sealed header2 segments2 ∧ sealedAndTying.te.tie ≠ none
      ∧ (entryAt sealedAndTying 6).role = .candidate ∧ (entryAt sealedAndTying 3).role = .standby)
    ∧ 590000 + ((segments2.drop 3).map (·.length)).sum = 1000000 := by decide

theorem wit_OperationsComplete :
    ((dwelling false []).oq.ops = [head (.dwell 500) false] ∧ (dwelling false []).oq.dwellTimer = some 500)
    ∧ (dwelling true []).oq.ops = [head (.dwell 500) true]
    ∧ (dwelling true [waiter (.dwell 100)]).oq.ops = [head (.dwell 500) true, waiter (.dwell 100)]
    ∧ (let l := { loopOf .plunge (.tracking 400) (.given 2400) with holdCount := 2 }
       let s := handed (.inWindow 10) { withOps [head (.plunge 2400) false] idle with gl := { v := 0, loop := some l } }
       loopHas (strikeOf (.inWindow 10) 0 0) l s ∧ measuredDepth 10 s = 2410 ∧ tiltUnclamped s
         ∧ decide3 l.shallow l.deep (filteredError (pushError l.window (measuredDepth 10 s - 2400))) = .hold)
    ∧ (let s := withOps [head .lift false] idle
       s.oq.ops = [head .lift false] ∧ s.sm = none ∧ ConstantsLaw s ∧ tickFaults { sound with stroke := 2460000 } s.os = []
         ∧ (s.clp.consts.strokeTop : Int) = strokeReading 2460000 ∧ kindOf OpParams.lift ≠ .dig) := by decide

/-- A run held at the end of segment 1. -/
def heldRun : RunCtx := { run1 with phase := .segmentHold, frozen := some 340000 }

theorem wit_ResumeAndSoftAbortOfADig :
    (let s := { digging with lt := some heldRun, cc := { digging.cc with acc := 525499000, chw := some 525499 } }
     s.lt = some heldRun ∧ heldRun.staged = some ⟨2, 340000, 630⟩
       ∧ (segmentsOf (sheetAt s 1).body)[2]? = some ⟨185500, 120, .inspection, true⟩ ∧ 525499 < 340000 + 185500)
    ∧ (let s := withPause (fun p => { p with resumeWait := true }) digging
       runPhase s ≠ some .segmentHold ∧ s.oq.pause.resumeWait = true)
    ∧ (runPhase digging ≠ some .segmentHold ∧ digging.oq.pause.resumeWait = false)
    ∧ (executingKind digging = some .dig ∧ digging.cc.still = .moving) ∧ executingKind idle = none := by decide

theorem wit_StopAndRestart :
    digging.oq.ops = [head (.dig 1 0 2 (some 0)) false] ∧ digging.te.tie = none
    ∧ (tying tie3 .candidate strike6).te.tie = some tie3 ∧ (shadowed 0 2400 500 none).sm ≠ none
    ∧ PlaneLaw digging := by decide

/-- The hypotheses common to the clauses of SampleTick. -/
def ticks (r : Readings) (s : State) : Prop :=
  executingKind s ≠ some .lift ∧ 0 ≤ strokeReading r.stroke ∧ strokeReading r.stroke ≤ 1000
    ∧ ((s.os.raiseDuty = 0 ∧ r.raise.path = true)
      ∨ (100 ≤ s.os.raiseDuty ∧ 50 ≤ r.raise.current ∧ r.raise.current ≤ 3000))
    ∧ ((s.os.lowerDuty = 0 ∧ r.lower.path = true)
      ∨ (100 ≤ s.os.lowerDuty ∧ 50 ≤ r.lower.current ∧ r.lower.current ≤ 3000))

theorem wit_SampleTick :
    (ticks sound digging ∧ digging.sm = none ∧ digging.oq.pause.reach = false ∧ 0 < digging.gl.v
      ∧ strokeReading 1500000 < digging.clp.consts.strokeTop)
    ∧ (let s := withPause (fun p => { p with reach := true }) digging
       ticks { sound with stroke := 542000 } s ∧ s.oq.pause.reach = true ∧ s.clp.consts.strokeBottom < strokeReading 542000)
    ∧ (let s := { digging with gl := { digging.gl with v := -25 }, os := { digging.os with raiseDuty := 0, lowerDuty := 220 } }
       ticks { sound with stroke := 540000 } s ∧ s.gl.v < 0 ∧ strokeReading 540000 = s.clp.consts.strokeBottom)
    ∧ (ticks { sound with stroke := 2460000 } digging ∧ strokeReading 2460000 = digging.clp.consts.strokeTop)
    ∧ (ticks sound (shadowed (-148) 2402 20 none)
      ∧ (shadowed (-148) 2402 20 none).sm.map (fun m => m.stroke == rig.strokeBottom) = some true) := by
  refine ⟨⟨?_, by decide⟩, ⟨?_, by decide⟩, ⟨?_, by decide⟩, ⟨?_, by decide⟩, ⟨?_, by decide⟩⟩ <;>
    exact ⟨by decide, by decide, by decide, by decide, by decide⟩

theorem wit_FaultIsDeclaredAndCleared :
    (digging.os.faulted = false ∧ strokeReading 498000 < 0 ∧ 1000 < strokeReading 2502000
      ∧ 0 < digging.os.raiseDuty ∧ (3000 < 3001))
    ∧ (let s := { digging with os := { digging.os with raise := ⟨2, .broken⟩, lower := ⟨2, .broken⟩ } }
       s.os.raise.openCount = 2 ∧ 100 ≤ s.os.raiseDuty ∧ s.os.lower.openCount = 2 ∧ s.os.lowerDuty = 0)
    ∧ (let s := { idle with os := { idle.os with faulted := true } }
       s.os.faulted = true ∧ healthy s.os.health = true)
    ∧ (let s := { idle with os := { idle.os with faulted := true, health := ⟨false, false, true⟩ } }
       s.os.faulted = true ∧ healthy s.os.health = false) := by decide

/-- The change of depth of the model in one step, cut as R179 cuts it. -/
def shadowChange (v ds : Int) (stroke : Nat) : Int :=
  max (max (2400 - 145 - ds) ((stroke : Int) - 1000)) (min stroke (-((v * (120 * 100 : Nat)) / 1000000)))

theorem wit_ShadowStep :
    ((shadowed (-148) 2402 500 (some ⟨5000, 1⟩)).sm.bind (·.gap) = some ⟨5000, 1⟩ ∧ shadowChange (-148) 2402 500 = 2
      ∧ chainage (shadowed (-148) 2402 500 (some ⟨5000, 1⟩)) < 5000 + 1)
    ∧ ((shadowed 0 2495 500 (some ⟨4999, 1⟩)).os.permit = false ∧ activeEntry (shadowed 0 2495 500 none) = some 2
      ∧ (shadowed 0 2495 500 none).mlr.slot = none ∧ 4999 + 1 ≤ chainage (shadowed 0 2495 500 none))
    ∧ shadowChange 800 2257 500 = -2 ∧ shadowChange (-1000) 2400 5 = 5 ∧ shadowChange 800 2400 997 = -3
    ∧ (2495 : Int) + shadowChange 0 2495 500 - 2400 = 95 ∧ (95 : Int) < 2496 + shadowChange 0 2496 500 - 2400
    ∧ (2304 : Int) + shadowChange 0 2304 500 - 2400 < -95
    ∧ (let s := { shadowed 0 2400 500 none with os := { idle.os with permit := true } }
       s.os.permit = true ∧ s.oq.ops.length ≤ 1) := by decide

theorem wit_ShadowRequests :
    (idle.sm = none ∧ idle.os.faulted = false ∧ idle.oq.ops = [] ∧ idle.te.tie = none ∧ activeEntry idle = some 2)
    ∧ (idle.sm = none ∧ { idle with os := { idle.os with faulted := true } }.os.faulted = true)
    ∧ (let s := withOps [head .lift false] idle
       s.sm = none ∧ s.os.faulted = false ∧ s.oq.ops ≠ [] ∧ s.te.tie = none)
    ∧ (let s := tying tie3 .candidate strike6
       s.sm = none ∧ s.os.faulted = false ∧ s.oq.ops = [] ∧ s.te.tie ≠ none)
    ∧ (State.reset.sm = none ∧ State.reset.os.faulted = false ∧ State.reset.oq.ops = [] ∧ State.reset.te.tie = none
      ∧ activeEntry State.reset = none)
    ∧ ((shadowed 0 2400 500 none).sm ≠ none ∧ (shadowed 0 2400 500 none).oq.ops = []
      ∧ (shadowed 0 2400 500 none).te.tie = none)
    ∧ (let s := { tying tie3 .candidate strike6 with sm := (shadowed 0 2400 500 none).sm }
       s.sm ≠ none ∧ s.oq.ops = [] ∧ s.te.tie = some tie3)
    ∧ (withOps [head .lift false] (shadowed 0 2400 500 none)).oq.ops ≠ [] := by decide

theorem wit_CabReceiver :
    (refuse .poll 7 .state idle).clp.held = true ∧ (refuse .poll 7 .state idle).clp.reply ≠ none
    ∧ (idle.clp.held = false ∧ idle.clp.rx = .hunting)
    ∧ (let s := { idle with clp := { idle.clp with rx := .collecting [0x5A, 0, 3] 2 } }
       s.clp.held = false ∧ s.clp.rx = .collecting [0x5A, 0, 3] 2)
    ∧ (let s := { idle with clp := { idle.clp with rx := .collecting [0x5A, 0, 3, 7] 2 } }
       s.clp.held = false ∧ s.clp.rx = .collecting [0x5A, 0, 3, 7] 2 ∧ 48 < (49 : Byte).toNat ∧ (48 : Byte).toNat ≤ 48)
    ∧ (let s := { idle with clp := { idle.clp with rx := .collecting ([0x5A, 0, 19, 7, 1] ++ [2]) 2 } }
       s.clp.held = false ∧ s.clp.rx = .collecting ([0x5A, 0, 19, 7, 1] ++ [2]) 2 ∧ ([2] : List Byte).length ≤ (1 : Byte).toNat)
    ∧ (let s := { idle with clp := { idle.clp with rx := .collecting ([0x5A, 0, 19, 7, 1] ++ [2] ++ [0]) 2 } }
       s.clp.rx = .collecting ([0x5A, 0, 19, 7, 1] ++ [2] ++ [0]) 2 ∧ ([2] : List Byte).length = (1 : Byte).toNat
         ∧ crc16 ([0, 19, 7, 1] ++ [2]) ≠ (0 : Byte) ++ (0 : Byte)) := by decide

/-- The hypotheses of GoodCabFrame for a frame whose last byte is still to come. -/
def frameHas (address kind tag : Nat) (body : List Byte) : Prop :=
  let bytes := (frameOf address kind tag body).dropLast
  let s : State := { idle with clp := { idle.clp with rx := .collecting bytes 2 } }
  s.clp.held = false ∧ s.clp.address ≤ 3 ∧ s.clp.rx = .collecting bytes 2
    ∧ bytes ++ [(frameOf address kind tag body).getLastD 0] = frameOf address kind tag body

theorem wit_GoodCabFrame :
    (frameHas 0 19 255 [2] ∧ requestOfCode 19 = some .eraseSheet ∧ lengthMatches .eraseSheet [2] = true)
    ∧ (frameHas 0 255 0 [] ∧ requestOfCode 255 = none)
    ∧ (frameHas 0 19 1 [] ∧ lengthMatches .eraseSheet [] = false)
    ∧ frameHas 0xF0 51 1 [] ∧ frameHas 0xF0 50 1 [] ∧ frameHas 0x10 3 1 [] := by
  refine ⟨⟨?_, by decide⟩, ⟨?_, by decide⟩, ⟨?_, by decide⟩, ?_, ?_, ?_⟩ <;>
    exact ⟨by decide, by decide, by decide, by decide⟩

theorem wit_PortRequests :
    constOfId 28 = some .shadowPeriod
    ∧ (fire (.line .foreign) { idle with clp := { idle.clp with enables := 0x8000 } }).clp.reports ≠ []
    ∧ idle.clp.reports = []
    ∧ (let l : List Received := [⟨51, 7, true, .stop true 7⟩, ⟨51, 7, false, .stop false 7⟩]
       ∀ x ∈ l.take 1, ¬(x.broadcast = false ∧ x.kind = 51 ∧ x.tag = 7)) := by decide

theorem wit_RepliesThatShowThePart :
    executing idle = none ∧ digging.oq.ops = [head (.dig 1 0 2 (some 0)) false] ∧ digging.lt = some run1
    ∧ idle.gl.loop = none ∧ (holding (.coasting 7 8)).gl.loop = some (loopOf .hold (.coasting 7 8) (.given 2400))
    ∧ (dwelling false []).oq.dwellTimer = some 500 ∧ extremesOf [2595, 2598, 2595] = some (2595, 2598) := by decide

theorem wit_SetConstant :
    (constOfId 3 = some .driveMin ∧ constOfId 28 = some .shadowPeriod ∧ idle.oq.ops = [] ∧ idle.te.tie = none ∧ idle.sm = none)
    ∧ digging.oq.ops ≠ [] ∧ (tying tie3 .candidate strike6).te.tie ≠ none ∧ (shadowed 0 2400 500 none).sm ≠ none := by decide

theorem wit_OnlyOwnersChange :
    (∃ t, exec (.poll 7) idle = .next t) ∧ { idle with os := { idle.os with faulted := true } }.os.faulted = true :=
  ⟨⟨_, rfl⟩, by decide⟩

theorem wit_RoundingTheLineAndTheDrop :
    2 * (1 - roundDiv 1 2 * 2).natAbs = 2 ∧ stagedAfter segments2 run1.cur = some ⟨2, 340000, 630⟩ := by decide

/-- A part in the middle of a run, with a strike in the Grade Loop and another in the slot, commanded to compute. -/
def busy : State :=
  { slotted waiting2 (handed (.inWindow 10) digging) with pending := [.gradeLoopStrike, .strikeTake] }

theorem wit_StepKeeps :
    ConstantsLaw busy ∧ ChainageLaw busy ∧ PortLaw busy ∧ WindowLaw busy ∧ PairLaw busy ∧ QueueLaw busy ∧ SheetLaw busy
    ∧ PlaneLaw busy ∧ PermitLaw busy ∧ CoilLaw busy ∧ ContextLaw busy ∧ HighWaterLaw busy ∧ DriveLaw busy
    ∧ (SourceLaw busy ∧ SourceLaw (shadowed 0 2400 500 none)) ∧ ∃ t, step busy = .next t :=
  ⟨by decide, by decide, by decide, by decide, by decide, by decide, by decide, by decide, by decide, by decide,
    by decide, by decide, ⟨by decide, rfl⟩, ⟨by decide, by decide⟩, ⟨_, rfl⟩⟩

end Sys2Proof.Tests
end

section
/-! Proofs of the statements about spec/01 at tier 1: a character in HUNTING (R4), CLEAR_PLANE (R20) and READ_PLANE
(R21). First the facts about the operations they use, then one equation per case of each command. -/

namespace Sys2Proof.Proofs

open Sys2Proof.Machine

/-! ## Entries and their windows -/

@[simp] theorem entryOf_val (i : Fin 8) : entryOf i.val = some i := by
  simp [entryOf]

theorem entryOf_eq_none {n : Nat} (h : 8 ≤ n) : entryOf n = none := by
  simp [entryOf, h]

theorem inWork_iff (r : Role) : inWork r = true ↔ r = .active ∨ r = .candidate := by
  simp [inWork]

theorem inWork_eq_false_iff (r : Role) : inWork r = false ↔ r ≠ .active ∧ r ≠ .candidate := by
  simp [inWork]

/-- The change of one entry as the statements write it: the table alone is touched. -/
theorem modifyEntry_eq (i : Fin 8) (f : PlaneEntry → PlaneEntry) (s : State) :
    modifyEntry i f s = { s with pat := s.pat.set i.val (f (entryAt s i)) } := rfl

/-- Writing back what an entry holds changes nothing of the table. -/
theorem set_entryAt_self (s : State) (i : Fin 8) : s.pat.set i.val (entryAt s i) = s.pat :=
  Vector.set_getElem_self i.isLt

/-- An EMPTY entry matches no signature, whatever its window says (R15). -/
theorem matchesSig_of_empty {e : PlaneEntry} (h : e.role = .empty) (sig : Nat) : matchesSig e sig = false := by
  simp [matchesSig, h]

/-! ## The frame assembler in HUNTING -/

/-- A line that is on receives every character, clean or marked (R3, R11). -/
theorem exec_mastByte_of_lineOn (data : Byte) (parity stop : Bool) {s : State} (on : s.mlr.lineOn = true) :
    exec (.mastByte data parity stop) s = .next (takeMastByte data (marked data parity stop) s) := by
  simp [exec, execMastByte, on]

theorem takeMastByte_hunting_clean_sync {s : State} (hunting : s.mlr.rx = .hunting) :
    takeMastByte mastSync false s = setMastRx (.collecting [mastSync] (after s.clock gapTime)) s := by
  simp [takeMastByte, hunting]

theorem takeMastByte_hunting_marked (data : Byte) {s : State} (hunting : s.mlr.rx = .hunting) :
    takeMastByte data true s = countNoise s := by
  simp [takeMastByte, hunting]

theorem takeMastByte_hunting_not_sync {data : Byte} (isMarked : Bool) {s : State} (hunting : s.mlr.rx = .hunting)
    (other : data ≠ mastSync) : takeMastByte data isMarked s = countNoise s := by
  simp [takeMastByte, hunting, other]

/-- Settles O8: the two tests of R4, the mark and the sync value, taken apart; each outcome is one equation of the frame
assembler. -/
theorem mastByteInHunting : Obligations.MastByteInHunting := by
  intro data parity stop s on hunting
  rw [exec_mastByte_of_lineOn data parity stop on]
  refine ⟨fun clean sync => ?_, fun dropped => ?_⟩
  · subst sync
    rw [clean]
    exact congrArg Host.Outcome.next (takeMastByte_hunting_clean_sync hunting)
  · have noise : takeMastByte data (marked data parity stop) s = countNoise s := by
      rcases dropped with isMarked | other
      · rw [isMarked, takeMastByte_hunting_marked data hunting]
      · exact takeMastByte_hunting_not_sync _ hunting other
    exact congrArg Host.Outcome.next noise

/-! ## CLEAR_PLANE -/

theorem exec_clearPlane_of_entry_above {entry : Nat} (above : 8 ≤ entry) (tag : Nat) (s : State) :
    exec (.clearPlane tag entry) s = .next (refuse .clearPlane tag .badValue s) := by
  simp [exec, execClearPlane, entryOf_eq_none above]

theorem exec_clearPlane_of_inWork {i : Fin 8} {s : State} (work : inWork (entryAt s i).role = true) (tag : Nat) :
    exec (.clearPlane tag i.val) s = .next (refuse .clearPlane tag .state s) := by
  simp [exec, execClearPlane, work]

theorem exec_clearPlane_of_not_inWork {i : Fin 8} {s : State} (idle : inWork (entryAt s i).role = false) (tag : Nat) :
    exec (.clearPlane tag i.val) s
      = .next (answer .clearPlane tag .ok .none (modifyEntry i (fun _ => PlaneEntry.cleared) s)) := by
  simp [exec, execClearPlane, idle]

/-- Settles O14: one equation for each answer of R20; the cleared entry matches nothing because it is EMPTY, and clearing
an entry already clear writes back what stands there. -/
theorem clearPlane : Obligations.ClearPlane := by
  intro tag i s
  refine ⟨fun notActive notCandidate => ?_, fun work => ?_, fun entry above => ?_, matchesSig_of_empty rfl,
    fun already => ?_⟩
  · have idle := (inWork_eq_false_iff _).mpr ⟨notActive, notCandidate⟩
    rw [exec_clearPlane_of_not_inWork idle, modifyEntry_eq]
  · exact exec_clearPlane_of_inWork ((inWork_iff _).mpr work) tag
  · exact exec_clearPlane_of_entry_above above tag s
  · rw [← already, set_entryAt_self]

/-! ## READ_PLANE -/

theorem exec_readPlane_of_entry_above {entry : Nat} (above : 8 ≤ entry) (tag : Nat) (s : State) :
    exec (.readPlane tag entry) s = .next (refuse .readPlane tag .badValue s) := by
  simp [exec, execReadPlane, entryOf_eq_none above]

/-- The reply carries the entry as it stood before its match flag is cleared. -/
theorem exec_readPlane_val (tag : Nat) (i : Fin 8) (s : State) :
    exec (.readPlane tag i.val) s
      = .next (answer .readPlane tag .ok (.plane (entryAt s i))
          (modifyEntry i (fun e => { e with matched := false }) s)) := by
  simp [exec, execReadPlane]

/-- Settles O15: the two branches of R21, on whether the number names an entry. -/
theorem readPlane : Obligations.ReadPlane := by
  intro tag i s
  refine ⟨?_, fun entry above => exec_readPlane_of_entry_above above tag s⟩
  rw [exec_readPlane_val, modifyEntry_eq]

end Sys2Proof.Proofs
end

section
/-! Proof of the statement about spec/03 at tier 1: ERASE_SHEET (R42). First the facts about the sheet table it uses, then
one equation per case of the command. -/

namespace Sys2Proof.Proofs

open Sys2Proof.Machine

/-! ## Sheets and their numbers -/

/-- The sheets are numbered from 1 on the line and from 0 in the table. -/
@[simp] theorem sheetOf_val_add_one (n : Fin 6) : sheetOf (n.val + 1) = some n := by
  simp [sheetOf]

theorem sheetOf_eq_none {n : Nat} (outside : n = 0 ∨ 6 < n) : sheetOf n = none := by
  have notInRange : ¬ (1 ≤ n ∧ n ≤ 6) := by omega
  simp [sheetOf, notInRange]

/-- The change of a sheet's contents as the statements write it: that sheet alone is touched, and keeps its in-use count. -/
theorem setBody_eq (n : Fin 6) (b : SheetBody) (s : State) :
    setBody n b s = { s with ss := s.ss.set n.val { body := b, inUse := (sheetAt s n).inUse } } := rfl

/-! ## ERASE_SHEET -/

theorem exec_eraseSheet_of_number_outside {number : Nat} (outside : number = 0 ∨ 6 < number) (tag : Nat) (s : State) :
    exec (.eraseSheet tag number) s = .next (refuse .eraseSheet tag .badValue s) := by
  simp [exec, execEraseSheet, sheetOf_eq_none outside]

theorem exec_eraseSheet_of_inUse {n : Fin 6} {s : State} (used : 0 < (sheetAt s n).inUse) (tag : Nat) :
    exec (.eraseSheet tag (n.val + 1)) s = .next (refuse .eraseSheet tag .busy s) := by
  simp [exec, execEraseSheet, used]

theorem exec_eraseSheet_of_not_inUse {n : Fin 6} {s : State} (free : (sheetAt s n).inUse = 0) (tag : Nat) :
    exec (.eraseSheet tag (n.val + 1)) s = .next (answer .eraseSheet tag .ok .none (setBody n .empty s)) := by
  simp [exec, execEraseSheet, free]

/-- Settles O23: one equation for each answer of R42; a sheet that is erased was out of use, so the count it keeps
is 0. -/
theorem eraseSheet : Obligations.EraseSheet := by
  intro tag n s
  refine ⟨fun free => ?_, fun used => exec_eraseSheet_of_inUse used tag,
    fun number outside => exec_eraseSheet_of_number_outside outside tag s⟩
  rw [exec_eraseSheet_of_not_inUse free, setBody_eq, free]

end Sys2Proof.Proofs
end

section
/-! What a step can do, said once: every command is a chain of moves, each of which carries the part from one point between
moves to the next. The laws of the safety statements are then proved move by move. -/

namespace Sys2Proof.Proofs

open Sys2Proof.Machine Sys2Proof.Safety Sys2Proof.Laws

/- The case splits of this file are elaborated in order: side by side each waits for the equations of the model's functions
in a thread of its own, and the threads' stacks come up to the memory the check allows. -/
set_option Elab.async false

/-! ## The points between moves, and the owners -/

/-- Where the part stands between two moves of one command. -/
inductive Phase where
  /-- Nothing is half done: every command begins and ends here. -/
  | settled
  /-- The loop has seen the beam, and the level of this strike has yet to be handed on (R110, R113). -/
  | driving
  /-- The head has left, or the first operation has been appended: the next operation has yet to start (R155). -/
  | between
  /-- The head has been marked as begun, without any context yet (R143). -/
  | starting
  /-- The head is a DIG whose high-water chainage is set, without its run and its loop yet (R145). -/
  | placed
  /-- The part is FAULTED and its queue is being emptied (R166). -/
  | faulting
deriving DecidableEq

/-- The owners of what no other command may change. -/
inductive Owner where
  | power | constants | enables | sheets | windows | mastLine | clearFault | shadow | nobody
deriving DecidableEq

/-- What a command owns. -/
def ownerOf : Instr → Owner
  | .powerOn .. => .power
  | .setConstant .. => .constants
  | .setEnables .. => .enables
  | .openSheet .. => .sheets
  | .appendSegment .. => .sheets
  | .sealSheet .. => .sheets
  | .eraseSheet .. => .sheets
  | .definePlane .. => .windows
  | .clearPlane .. => .windows
  | .mastLine .. => .mastLine
  | .clearFault .. => .clearFault
  | .shadowOn .. => .shadow
  | .shadowOff .. => .shadow
  | .restart .. => .shadow
  | _ => .nobody

/-! ## Moves that no law sees -/

/-- The part of an entry the laws and the owners speak of. -/
def planeCore (e : PlaneEntry) : Role × Nat × Nat × Int := (e.role, e.sigLo, e.sigHi, e.slope)

/-- The part of an operation the laws speak of. -/
def opCore (op : Operation) : OpParams × Bool := (op.params, isWaiting op)

/-- Nothing that a law or an owner speaks of differs between the two states. -/
structure Quiet (s t : State) : Prop where
  clock : t.clock = s.clock := by rfl
  pending : t.pending = s.pending := by rfl
  lineOn : t.mlr.lineOn = s.mlr.lineOn := by rfl
  planes : ∀ i, planeCore (entryAt t i) = planeCore (entryAt s i) := by exact fun _ => rfl
  acc : t.cc.acc = s.cc.acc := by rfl
  chw : t.cc.chw = s.cc.chw := by rfl
  source : t.cc.source = s.cc.source := by rfl
  ss : t.ss = s.ss := by rfl
  lt : t.lt = s.lt := by rfl
  gl : t.gl = s.gl := by rfl
  tie : t.te.tie = s.te.tie := by rfl
  bench : t.te.bench.isSome = s.te.bench.isSome := by rfl
  ops : t.oq.ops.map opCore = s.oq.ops.map opCore := by rfl
  seq : t.oq.seq = s.oq.seq := by rfl
  raiseDuty : t.os.raiseDuty = s.os.raiseDuty := by rfl
  lowerDuty : t.os.lowerDuty = s.os.lowerDuty := by rfl
  faulted : t.os.faulted = s.os.faulted := by rfl
  sm : t.sm.map (·.setAside) = s.sm.map (·.setAside) := by rfl
  clp : t.clp = s.clp := by rfl

/-- What every change of the port but the owners' keeps. -/
structure PortStep (s : State) (c : Clp) : Prop where
  address : c.address = s.clp.address := by rfl
  consts : c.consts = s.clp.consts := by rfl
  enables : c.enables = s.clp.enables := by rfl
  bounded : PortLaw s → PortLaw { s with clp := c } := by exact id

/-- A change of the loop context that leaves the bound of the drive level alone. -/
structure LoopStep (l l' : LoopCtx) : Prop where
  window : l.window.length ≤ 4 → l'.window.length ≤ 4
  bound : ∀ k, driveBound k l'.state = driveBound k l.state
  level : ∀ k, levelBounded k l.state = true → levelBounded k l'.state = true

/-- A tie record holds no more pairs than it wants (R118, R126). -/
abbrev PairsFit (r : TieRecord) : Prop :=
  (decide (2 ≤ r.n) && decide (r.n ≤ 16) && decide (r.pairs.length ≤ r.n)
    && (r.result.isSome || decide (r.pairs.length < r.n))) = true

/-- The end of a tie without transfer, but for its event (R134). -/
def tieEnded (r : TieRecord) (o : Option TieOutcome) (s : State) : State :=
  { s with
    pat := s.pat.set r.candidate.val { s.pat[r.candidate.val] with role := .standby, tie := none }
    te := { s.te with tie := none, last := o } }

/-- The change of roles at a transfer (R131). -/
def rolesPassed (e : Fin 8) (t : Tie) (s : State) : State :=
  let s1 := modifyEntry e (fun p => { p with role := .active, tie := some t }) s
  match activeEntry s with
  | some i => modifyEntry i (fun p => { p with role := .retired }) s1
  | none => s1

/-! ## The moves -/

/-- The phase after an operation has left the queue. -/
def leftPhase : Phase → Phase
  | .faulting => .faulting
  | _ => .between

/-- One move, made by a command with this owner. -/
inductive Move (own : Owner) : Phase → State → Phase → State → Prop
  | quiet {p s t} (h : Quiet s t) : Move own p s p t
  | port {p s} (c : Clp) (h : PortStep s c) : Move own p s p { s with clp := c }
  -- the loop and the drive
  | loop {p s l l'} (hl : s.gl.loop = some l) (h : LoopStep l l') :
      Move own p s p { s with gl := { s.gl with loop := some l' } }
  | drive {s l v st} (hl : s.gl.loop = some l)
      (h : levelBounded s.clp.consts l.state = true →
        v.natAbs ≤ driveBound s.clp.consts st ∧ levelBounded s.clp.consts st = true) :
      Move own .settled s .settled (handOn v (setLoopState st s))
  | track {s l due} (hl : s.gl.loop = some l) (h : s.gl.v.natAbs ≤ s.clp.consts.driveMax) :
      Move own .settled s .settled { s with gl := { s.gl with loop := some { l with state := .tracking due } } }
  | cut {s} : Move own .settled s .settled (handOn 0 s)
  | seen {s l due} (hl : s.gl.loop = some l) :
      Move own .settled s .driving { s with gl := { s.gl with loop := some { l with state := .tracking due } } }
  | driven {s v} (hl : s.gl.loop.isSome = true) (h : v.natAbs ≤ s.clp.consts.driveMax) :
      Move own .driving s .settled (handOn v s)
  -- the run and the bench
  | run {s r r' b} (hr : s.lt = some r) (hc : r'.c0 = r.c0)
      (h : (s.te.bench.isSome = true ↔ r.phase = .benching) → (b.isSome = true ↔ r'.phase = .benching)) :
      Move own .settled s .settled { s with lt := some r', te := { s.te with bench := b } }
  -- ties and planes
  | tie {p s r r'} (hr : s.te.tie = some r) (hc : r'.candidate = r.candidate) (h : PairsFit r → PairsFit r') :
      Move own p s p { s with te := { s.te with tie := some r' } }
  | endTie {p s r o} (hr : s.te.tie = some r) : Move own p s p (tieEnded r o s)
  | startTie {s e r} (h : s.te.tie = none) (hrole : mayBeTied (entryAt s e).role = true) (hc : r.candidate = e)
      (hp : PairsFit r) :
      Move own .settled s .settled
        { modifyEntry e (fun p => { p with role := .candidate, tie := none }) s with te := { s.te with tie := some r } }
  | transfer {s r o t} (hr : s.te.tie = some r) :
      Move own .settled s .settled
        { rolesPassed r.candidate t s with te := { s.te with tie := none, last := o } }
  | makeActive {p s e} (h : (entryAt s e).role = .standby ∨ (entryAt s e).role = .active) :
      Move own p s p (makeActive e s)
  | restPlanes {s} (h : s.te.tie = none) : Move own .settled s .settled (restPlanes s)
  -- the chainage
  | travel {s acc latch chw} (hacc : s.cc.acc ≤ accTop → acc ≤ accTop) (hsome : chw.isSome = s.cc.chw.isSome)
      (hup : ∀ h h', s.cc.chw = some h → chw = some h' → h ≤ h')
      (htop : ∀ h h', s.cc.chw = some h → chw = some h' → chainage s ≤ h → acc / 1000 ≤ h') :
      Move own .settled s .settled { s with cc := { s.cc with acc := acc, limitLatch := latch, chw := chw } }
  | setting {p s c} (hp : (p = .settled ∧ holdsDig s = false) ∨ p = .starting)
      (hc : (s.oq.ops.all fun op => startInRange op.params) = true → c ≤ 999999) :
      Move own p s p (setTheChainage c s)
  -- the queue
  | append {s op} (hw : op.state = .waiting) (hseq : s.oq.seq ≠ .faulted) (hlen : s.oq.ops.length < 4)
      (hseal : unsealedDig op.params s = false) (hc : startInRange op.params = true) :
      Move own .settled s (if s.oq.ops.isEmpty then .between else .settled) (appendOperation op s)
  | leave {p s op rest} (out : OpOutcome) (why : OpReason) (h : s.oq.ops = op :: rest) :
      Move own p s (leftPhase p) (leaveQueue out why s)
  | mark {s op rest} (h : s.oq.ops = op :: rest) : Move own .between s .starting (markStarted s)
  | idle {p s} (hp : p = .settled ∨ p = .between) (h : s.oq.ops = []) : Move own p s .settled (idleSequencer s)
  | place {s} (h : executingKind s = some .dig) :
      Move own .starting s .placed { s with cc := { s.cc with chw := some (chainage s) } }
  | startDig {s r l b} (hc : s.cc.chw = some (chainage s)) (hc0 : r.c0 = chainage s)
      (hb : s.te.bench = none → (b.isSome = true ↔ r.phase = .benching)) (hst : l.state = .acquiring) (hw : l.window = []) :
      Move own .placed s .settled
        { s with lt := some r, te := { s.te with bench := b }, gl := { s.gl with loop := some l } }
  | startLoop {s l} (h : executingKind s = some .hold ∨ executingKind s = some .plunge) (hst : l.state = .acquiring)
      (hw : l.window = []) : Move own .starting s .settled { s with gl := { s.gl with loop := some l } }
  | startLift {s} (h : executingKind s = some .lift) :
      Move own .starting s .settled (handOn s.clp.consts.liftDrive s)
  | startDwell {s} (h : executingKind s = some .dwell) : Move own .starting s .settled s
  -- faults
  | fault {s} (f : FaultRecord) (h : s.os.faulted = false) :
      Move own .settled s .faulting { s with os := faultedOutputs f s.os }
  | faulted {s} (h : s.oq.ops = []) : Move own .faulting s .settled { s with oq := { s.oq with seq := .faulted } }
  | clearFault {s} (ho : own = .clearFault) (h : s.os.faulted = true) :
      Move own .settled s .settled { s with os := clearedOutputs s.os, oq := { s.oq with seq := .idle } }
  -- the owners' own
  | power {s} (ho : own = .power) (a0 a1 : Bool) (w : WheelPair) : Move own .settled s .settled (powered a0 a1 w s)
  | setConst {s c value} (ho : own = .constants) (h : constantsHeld s = false) :
      Move own .settled s .settled
        { s with clp := { s.clp with consts := putConst s.clp.consts (heldValue s.clp.consts c value) c } }
  | enables {s m} (ho : own = .enables) : Move own .settled s .settled { s with clp := { s.clp with enables := m } }
  | sheet {s n b} (ho : own = .sheets) (h : (sheetAt s n).inUse = 0 ∨ isSealed (sheetAt s n).body = false) :
      Move own .settled s .settled (setBody n b s)
  | definePlane {s i lo hi e} (ho : own = .windows) (hw : inWork (entryAt s i).role = false)
      (h : overlapsOther i lo hi s = false) (he : planeCore e = (.standby, lo, hi, e.slope)) :
      Move own .settled s .settled (modifyEntry i (fun _ => e) s)
  | clearPlane {s i} (ho : own = .windows) (hw : inWork (entryAt s i).role = false) :
      Move own .settled s .settled (modifyEntry i (fun _ => PlaneEntry.cleared) s)
  | mastLine {s m} (ho : own = .mastLine) : Move own .settled s .settled { s with mlr := m }
  | beginShadow {s m} (ho : own = .shadow) (hm : m.setAside = s.cc.acc) (hops : s.oq.ops = []) :
      Move own .settled s .settled
        { setAccumulator (1000 * chainage s) s with
          cc := { (setAccumulator (1000 * chainage s) s).cc with source := .shadow }
          sm := some m, os := setDuties 0 0 s.os }
  | leaveShadow {s} (ho : own = .shadow) (hops : s.oq.ops = []) : Move own .settled s .settled (leaveShadow s)

/-- A chain of moves of one command. -/
inductive Moves (own : Owner) : Phase → State → Phase → State → Prop
  | done {p s} : Moves own p s p s
  | cons {p s q t r u} (m : Move own p s q t) (ms : Moves own q t r u) : Moves own p s r u

namespace Moves

variable {own : Owner}

theorem one {p q : Phase} {s t : State} (m : Move own p s q t) : Moves own p s q t := .cons m .done

theorem trans {p q r : Phase} {s t u : State} (a : Moves own p s q t) (b : Moves own q t r u) : Moves own p s r u := by
  induction a with
  | done => exact b
  | cons m _ ih => exact .cons m (ih b)

theorem quiet {p : Phase} {s t : State} (h : Quiet s t) : Moves own p s p t := one (.quiet h)

end Moves

end Sys2Proof.Proofs
end

section
/-! Every command is a chain of moves: the shared operations first, then each block's, then the commands. -/

namespace Sys2Proof.Proofs

open Sys2Proof.Machine Sys2Proof.Safety Sys2Proof.Laws

/- The case splits of this file are elaborated in order: side by side each waits for the equations of the model's functions
in a thread of its own, and the threads' stacks come up to the memory the check allows. -/
set_option Elab.async false

variable {own : Owner} {p : Phase}

/-! ## Counting, firing and answering -/

/-- Offering a record keeps the report queue and REPORT_LOST within their bounds (R189, R190). -/
theorem portLaw_offerReport (e : Event) (time : Time) (c : Nat) {s : State} (h : PortLaw s) :
    PortLaw { s with clp := offerReport e time c s.clp } := by
  obtain ⟨hr, h1, h2, h3, h4, h5, h6, h7, h8, h9, h10⟩ := h
  have hlen := offerReport_length e time c s.clp hr
  refine ⟨hlen, ?_⟩
  unfold offerReport
  dsimp only
  split
  · exact ⟨h1, h2, h3, h4, h5, h6, h7, h8, h9, h10⟩
  · exact ⟨h1, h2, h3, h4, h5, h6, h7, h8, countOne_le _ h9, h10⟩

theorem portLaw_fireIn (e : Event) (time : Time) (c : Nat) {s : State} (h : PortLaw s) :
    PortLaw { s with clp := fireIn e time c s.clp } := by
  unfold fireIn
  dsimp only
  split
  · exact portLaw_offerReport e time c (s := { s with clp := { s.clp with flags := _ } }) h
  · exact h

theorem portStep_fire (e : Event) (s : State) : PortStep s (fire e s).clp where
  address := by simp
  consts := by simp
  enables := by simp
  bounded := portLaw_fireIn e _ _

theorem fire_moves (e : Event) (s : State) : Moves own p s p (fire e s) := .one (.port _ (portStep_fire e s))

/-- A change of the counters that keeps their bounds (R190). -/
theorem withCounters_moves {f : Counters → Counters} {s : State} (h : PortLaw s → PortLaw (withCounters f s)) :
    Moves own p s p (withCounters f s) := .one (.port _ { bounded := h })

theorem countNoise_moves (s : State) : Moves own p s p (countNoise s) :=
  withCounters_moves fun ⟨hr, h1, h2, h3, h⟩ => ⟨hr, h1, h2, countOne_le _ h3, h⟩

theorem countRejected_moves (s : State) : Moves own p s p (countRejected s) :=
  withCounters_moves fun ⟨hr, h1, h2, h3, h4, h⟩ => ⟨hr, h1, h2, h3, countOne_le _ h4, h⟩

theorem countForeign_moves (s : State) : Moves own p s p (countForeign s) :=
  withCounters_moves fun ⟨hr, h1, h2, h3, h4, h5, h⟩ => ⟨hr, h1, h2, h3, h4, countOne_le _ h5, h⟩

theorem countShadowMasked_moves (s : State) : Moves own p s p (countShadowMasked s) :=
  withCounters_moves fun ⟨hr, h1, h2, h3, h4, h5, h6, h⟩ => ⟨hr, h1, h2, h3, h4, h5, countOne_le _ h6, h⟩

theorem countWheelFault_moves (s : State) : Moves own p s p (countWheelFault s) :=
  withCounters_moves fun ⟨hr, h1, h2, h3, h4, h5, h6, h7, h⟩ => ⟨hr, h1, h2, h3, h4, h5, h6, countOne_le _ h7, h⟩

theorem countCabDropped_moves (s : State) : Moves own p s p (countCabDropped s) :=
  withCounters_moves fun ⟨hr, h1, h2, h3, h4, h5, h6, h7, h8, h⟩ =>
    ⟨hr, h1, h2, h3, h4, h5, h6, h7, countOne_le _ h8, h⟩

theorem countBenchRestart_moves (s : State) : Moves own p s p (countBenchRestart s) :=
  withCounters_moves fun ⟨hr, h1, h2, h3, h4, h5, h6, h7, h8, h9, h10⟩ =>
    ⟨hr, h1, h2, h3, h4, h5, h6, h7, h8, h9, countOne_le _ h10⟩

theorem fireLineAt_moves (which : LineCounter) (old new : Nat) (s : State) :
    Moves own p s p (fireLineAt which old new s) := by
  unfold fireLineAt
  split
  · exact fire_moves _ s
  · exact .done

theorem countDamaged_moves (s : State) : Moves own p s p (countDamaged s) :=
  (withCounters_moves fun ⟨hr, h1, h2, h⟩ => ⟨hr, h1, countOne_le _ h2, h⟩).trans (fireLineAt_moves _ _ _ _)

theorem countOverrun_moves (s : State) : Moves own p s p (countOverrun s) :=
  (withCounters_moves fun ⟨hr, h1, h⟩ => ⟨hr, countOne_le _ h1, h⟩).trans (fireLineAt_moves _ _ _ _)

theorem formPermit_moves (s : State) : Moves own p s p (formPermit s) := .quiet {}

theorem withPause_moves (f : PauseSet → PauseSet) (s : State) : Moves own p s p (withPause f s) := .quiet {}

theorem takeInHand_moves (broadcast : Bool) (kind tag : Nat) (s : State) :
    Moves own p s p (takeInHand broadcast kind tag s) := .one (.port _ {})

theorem sendReply_moves (kind tag : Nat) (result : ResultCode) (contents : Contents) (s : State) :
    Moves own p s p (sendReply kind tag result contents s) := .one (.port _ {})

theorem answer_moves (q : Request) (tag : Nat) (result : ResultCode) (contents : Contents) (s : State) :
    Moves own p s p (answer q tag result contents s) := .one (.port _ {})

theorem refuse_moves (q : Request) (tag : Nat) (result : ResultCode) (s : State) :
    Moves own p s p (refuse q tag result s) := answer_moves _ _ _ _ s

/-! ## The tables -/

/-- A change of one entry that keeps its role, its window and its slope. -/
theorem modifyEntry_moves {i : Fin 8} {f : PlaneEntry → PlaneEntry} (h : ∀ e, planeCore (f e) = planeCore e)
    (s : State) : Moves own p s p (modifyEntry i f s) := by
  refine .quiet { planes := fun j => ?_ }
  by_cases hj : j = i
  · subst hj; rw [entryAt_modifyEntry_same, h]
  · rw [entryAt_modifyEntry_of_ne hj]

theorem endTie_moves (why : TieReason) (spread : Option Int) (s : State) : Moves own p s p (endTie why spread s) := by
  cases hr : s.te.tie with
  | none => rw [endTie_of_none hr]; exact .done
  | some r =>
    rw [endTie_of_some hr]
    exact (fire_moves (.tieFailed r.candidate why r.pairs.length spread) s).trans (.one (.endTie hr))

/-! ## The mast line and the qualifier -/

theorem setSlot_moves (x : Option Strike) (s : State) : Moves own p s p (setSlot x s) := .quiet {}

theorem setMastRx_moves (rx : LineRx) (s : State) : Moves own p s p (setMastRx rx s) := .quiet {}

theorem offerStrike_moves (x : Strike) (s : State) : Moves own p s p (offerStrike x s) := by
  unfold offerStrike
  split
  · exact (setSlot_moves _ s).trans (countOverrun_moves _)
  · exact setSlot_moves _ s

theorem goodStrikeFrame_moves (sig first last status : Byte) (s : State) :
    Moves own p s p (goodStrikeFrame sig first last status s) := by
  unfold goodStrikeFrame
  split
  · exact countShadowMasked_moves s
  · exact offerStrike_moves _ s

theorem checkStrikeFrame_moves (frame : List Byte) (s : State) : Moves own p s p (checkStrikeFrame frame s) := by
  unfold checkStrikeFrame
  split
  · split
    · exact goodStrikeFrame_moves _ _ _ _ s
    · exact countDamaged_moves s
  · exact .done

theorem collectMastByte_moves (data : Byte) (bytes : List Byte) (s : State) :
    Moves own p s p (collectMastByte data bytes s) := by
  unfold collectMastByte
  dsimp only
  split
  · exact setMastRx_moves _ s
  · exact (setMastRx_moves _ s).trans (checkStrikeFrame_moves _ _)

theorem takeMastByte_moves (data : Byte) (isMarked : Bool) (s : State) :
    Moves own p s p (takeMastByte data isMarked s) := by
  unfold takeMastByte
  split
  · split
    · exact setMastRx_moves _ s
    · exact countNoise_moves s
  · split
    · exact (setMastRx_moves _ s).trans (countDamaged_moves _)
    · exact collectMastByte_moves _ _ s

theorem setMastLine_moves (on : Bool) (s : State) : Moves .mastLine .settled s .settled (setMastLine on s) := by
  unfold setMastLine
  split
  · split
    · exact .done
    · exact .one (.mastLine rfl)
  · refine (Moves.one (.mastLine rfl)).trans (withCounters_moves ?_)
    exact fun ⟨hr, _, _, _, h⟩ => ⟨hr, Nat.zero_le _, Nat.zero_le _, Nat.zero_le _, h⟩

theorem foreignStrike_moves (s : State) : Moves own p s p (foreignStrike s) := by
  unfold foreignStrike
  dsimp only
  split
  · exact countForeign_moves s
  · exact (countForeign_moves s).trans ((Moves.quiet {}).trans (fire_moves _ _))

theorem routeStrike_moves (q : QStrike) (s : State) : Moves own p s p (routeStrike q s) := by
  unfold routeStrike
  split
  · dsimp only
    split <;> exact .quiet {}
  · exact .quiet {}
  · exact .done

theorem matchStrike_moves (x : Strike) (beam : Beam) (s : State) : Moves own p s p (matchStrike x beam s) := by
  unfold matchStrike
  split
  · exact foreignStrike_moves s
  · exact (modifyEntry_moves (f := recordStrike _) (fun _ => rfl) s).trans (routeStrike_moves _ _)

theorem qualify_moves (x : Strike) (s : State) : Moves own p s p (qualify x s) := by
  unfold qualify
  split
  · exact countRejected_moves s
  · exact matchStrike_moves _ _ s

/-! ## The queue -/

theorem idleSequencer_moves {s : State} (hp : p = .settled ∨ p = .between) (h : s.oq.ops = []) :
    Moves own p s .settled (idleSequencer s) := .one (.idle hp h)

/-- A change of what the head holds while it executes. -/
theorem modifyHead_moves (f : RunInfo → RunInfo) (s : State) : Moves own p s p (modifyHead f s) := by
  unfold modifyHead
  split
  · exact .done
  next op rest h =>
    split
    · exact .done
    next info hinfo => exact .quiet { ops := by simp [h, opCore, isWaiting, hinfo] }

theorem executingKind_of_head {s : State} {op : Operation} {rest : List Operation} {info : RunInfo}
    (h : s.oq.ops = op :: rest) (hs : op.state = .executing info) : executingKind s = some (kindOf op.params) := by
  simp [executingKind, executing, h, hs]

/-- What the head's being marked as begun does (R143). -/
theorem markStarted_cons {s : State} {op : Operation} {rest : List Operation} (h : s.oq.ops = op :: rest) :
    markStarted s = { s with oq := { s.oq with
      ops := { op with state := .executing { startTime := s.clock, cycles := 0, cycleChainage := 0, cycleTime := 0 } } :: rest
      seq := if s.oq.seq = .idle then .executing else s.oq.seq } } := by
  unfold markStarted; rw [h]

theorem executingKind_markStarted {s : State} {op : Operation} {rest : List Operation} (h : s.oq.ops = op :: rest) :
    executingKind (markStarted s) = some (kindOf op.params) := by
  rw [markStarted_cons h]; rfl

/-- The blocks the kind of the executing operation is read from. -/
theorem executingKind_congr {s t : State} (h : t.oq.ops = s.oq.ops) : executingKind t = executingKind s := by
  simp [executingKind, executing, h]

theorem headerIn_isSome_of_segment {b : SheetBody} {k : Nat} {g : Segment} (h : (segmentsOf b)[k]? = some g) :
    ∃ x, headerIn b = some x := by
  cases b with
  | empty => simp [segmentsOf] at h
  | opened x l => exact ⟨x, rfl⟩
  | sealed x l => exact ⟨x, rfl⟩

theorem endTie_ss (why : TieReason) (spread : Option Int) (s : State) : (endTie why spread s).ss = s.ss := by
  cases hr : s.te.tie with
  | none => rw [endTie_of_none hr]
  | some r => rw [endTie_of_some hr]

end Sys2Proof.Proofs
end

section
/-! The Operation Queue and the Line Tracker as chains of moves: how the head starts, how it leaves, how the queue is
emptied, and the boundary test. -/

namespace Sys2Proof.Proofs

open Sys2Proof.Machine Sys2Proof.Safety Sys2Proof.Laws

/- The case splits of this file are elaborated in order: side by side each waits for the equations of the model's functions
in a thread of its own, and the threads' stacks come up to the memory the check allows. -/
set_option Elab.async false

variable {own : Owner} {p : Phase}

/-! ## The loop context -/

/-- A change of the loop context, where there is one, that leaves the bound of the drive level alone. -/
theorem modifyLoop_moves {f : LoopCtx → LoopCtx} (h : ∀ l, LoopStep l (f l)) (s : State) :
    Moves own p s p (modifyLoop f s) := by
  cases hl : s.gl.loop with
  | none => exact .quiet { gl := by simp [hl]; rw [← hl] }
  | some l =>
    have : modifyLoop f s = { s with gl := { s.gl with loop := some (f l) } } := by simp [modifyLoop, hl]
    rw [this]
    exact .one (.loop hl (h l))

theorem clearWindow_moves (s : State) : Moves own p s p (clearWindow s) :=
  modifyLoop_moves (f := fun l => { l with window := [], settle := s.clp.consts.settleCount, holdCount := 0 })
    (fun _ => ⟨fun _ => Nat.zero_le _, fun _ => rfl, fun _ h => h⟩) s

/-! ## Setting and starting -/

theorem makeActive_keeps (e : Fin 8) (s : State) : makeActive e s = { s with pat := (makeActive e s).pat } := by
  unfold makeActive; split <;> rfl

/-- The end of a tie touches the planes, the tie engine and the port alone. -/
theorem endTie_keeps (why : TieReason) (spread : Option Int) (s : State) :
    endTie why spread s = { s with
      pat := (endTie why spread s).pat
      te := { (endTie why spread s).te with bench := s.te.bench }
      clp := (endTie why spread s).clp } := by
  cases hr : s.te.tie with
  | none => rw [endTie_of_none hr]
  | some r => rw [endTie_of_some hr]

theorem opAtSetting_params (c : Nat) (op : Operation) : (opAtSetting c op).params = op.params := by
  unfold opAtSetting; split <;> rfl

theorem opAtSetting_isWaiting (c : Nat) (op : Operation) : isWaiting (opAtSetting c op) = isWaiting op := by
  unfold opAtSetting
  split
  next h => simp [isWaiting, h]
  · rfl

/-- A setting of the chainage leaves the kind of the executing operation as it was. -/
theorem executingKind_setTheChainage (c : Nat) (s : State) : executingKind (setTheChainage c s) = executingKind s := by
  have hops : (setTheChainage c s).oq.ops = s.oq.ops.map (opAtSetting c) := rfl
  unfold executingKind executing
  rw [hops]
  cases s.oq.ops with
  | nil => rfl
  | cons op rest =>
    have hp := opAtSetting_params c op
    cases hs : op.state with
    | waiting =>
      have : opAtSetting c op = op := by unfold opAtSetting; rw [hs]; split <;> simp_all
      simp [this, hs]
    | executing info =>
      have : ∃ info', (opAtSetting c op).state = .executing info' := by
        unfold opAtSetting; rw [hs]; split <;> simp_all
      obtain ⟨info', h'⟩ := this
      simp [h', hs, hp]

/-- What it takes to pass the start checks of a DIG (R144). -/
theorem digCheck_eq_none {n : Fin 6} {k0 : Nat} {e : Fin 8} {c0 : Option Nat} {s : State}
    (h : digCheck n k0 e c0 s = none) :
    k0 < (segmentsOf (sheetAt s n).body).length
      ∧ ((entryAt s e).role = .standby ∨ (entryAt s e).role = .active) := by
  unfold digCheck at h
  dsimp only at h
  split at h
  · cases h
  next hk =>
    split at h
    · cases h
    next hr => exact ⟨by omega, by by_cases hs : (entryAt s e).role = .standby <;> simp_all⟩

theorem fireMarker_moves (c : CurrentSegment) (s : State) : Moves own p s p (fireMarker c s) := by
  unfold fireMarker
  split
  · exact .done
  · exact fire_moves _ s

theorem fireMarker_consts (c : CurrentSegment) (s : State) : (fireMarker c s).clp.consts = s.clp.consts := by
  unfold fireMarker
  split
  · rfl
  · simp

/-- The run context a DIG is given (R51). -/
def newRun (n : Fin 6) (k0 c : Nat) (hd : Header) (l : List Segment) (g : Segment) : RunCtx where
  sheet := n
  k0 := k0
  c0 := c
  base := totalRise (l.take k0)
  cur := currentOf k0 c 0 g
  staged := stagedAfter l (currentOf k0 c 0 g)
  phase := if hd.startDepth.isSome then .running else .benching
  frozen := none
  unbenched := false
  softAborted := false

/-- The loop context an operation is given (R71). -/
def newLoop (kind : LoopKind) (shallow deep : Nat) (target : ConstTarget) (k : Constants) : LoopCtx where
  kind := kind
  state := .acquiring
  shallow := shallow
  deep := deep
  window := []
  settle := k.settleCount
  holdCount := 0
  target := target
  record := none

theorem createLoop_eq (kind : LoopKind) (shallow deep : Nat) (target : ConstTarget) (s : State) :
    createLoop kind shallow deep target s = withPause (fun x => { x with beam := true })
      { s with gl := { s.gl with loop := some (newLoop kind shallow deep target s.clp.consts) } } := rfl

theorem createRun_eq {n : Fin 6} {k0 c : Nat} {g : Segment} {hd : Header} {s : State}
    (hg : (segmentsOf (sheetAt s n).body)[k0]? = some g) (hh : headerIn (sheetAt s n).body = some hd) :
    createRun n k0 c s = fireMarker (currentOf k0 c 0 g)
      { s with lt := some (newRun n k0 c hd (segmentsOf (sheetAt s n).body) g) } := by
  unfold createRun
  simp only [hg, hh]
  rfl

/-- A run and its loop, created together with the bench they want (R51, R71, R120): what follows the first tie. -/
theorem contexts_moves {n : Fin 6} {k0 : Nat} {g : Segment} {hd : Header} {s : State}
    (hg : (segmentsOf (sheetAt s n).body)[k0]? = some g) (hh : headerIn (sheetAt s n).body = some hd)
    (hc : s.cc.chw = some (chainage s)) {b : Option Bench} {pause : PauseSet → PauseSet}
    (hb : s.te.bench = none → (b.isSome = true ↔ hd.startDepth = none)) :
    Moves own .placed s .settled (createLoop .dig hd.shallow hd.deep .absent
      (createRun n k0 (chainage s) (withPause pause { s with te := { s.te with bench := b } }))) := by
  have hb' : s.te.bench = none →
      (b.isSome = true ↔ (newRun n k0 (chainage s) hd (segmentsOf (sheetAt s n).body) g).phase = .benching) := by
    intro none
    rw [hb none]
    cases h : hd.startDepth <;> simp [newRun, h]
  have contexts := Moves.one (own := own) (.startDig (l := newLoop .dig hd.shallow hd.deep .absent s.clp.consts) hc rfl hb' rfl rfl)
  rw [createRun_eq (by exact hg) (by exact hh), createLoop_eq, fireMarker_consts]
  refine contexts.trans ((withPause_moves pause _).trans (.trans ?_ (withPause_moves (fun x => { x with beam := true }) _)))
  unfold fireMarker
  split
  · exact .quiet {}
  · exact fire_moves (.marker g.marker k0 (chainage s)) _

end Sys2Proof.Proofs
end

section
/-! The Operation Queue and the Line Tracker as chains of moves: how the head starts and leaves, how the queue is emptied,
and the boundary test. -/

namespace Sys2Proof.Proofs

open Sys2Proof.Machine Sys2Proof.Safety Sys2Proof.Laws

/- The case splits of this file are elaborated in order: side by side each waits for the equations of the model's functions
in a thread of its own, and the threads' stacks come up to the memory the check allows. -/
set_option Elab.async false

variable {own : Owner} {p : Phase}

/-! ## The start actions -/

/-- The first tie of a run, and the run and loop contexts (R119, R51, R71): the last actions of a DIG's start. -/
theorem firstTie_contexts_moves {n : Fin 6} {k0 : Nat} {e : Fin 8} {g : Segment} {hd : Header} {s : State}
    (hg : (segmentsOf (sheetAt s n).body)[k0]? = some g) (hh : headerIn (sheetAt s n).body = some hd)
    (hc : s.cc.chw = some (chainage s)) :
    Moves own .placed s .settled (createLoop .dig hd.shallow hd.deep .absent
      (createRun n k0 (chainage s) (firstTie n e (chainage s) s))) := by
  have hk := endTie_keeps .rebased none s
  have hss : (endTie .rebased none s).ss = s.ss := by rw [hk]
  have hcc : (endTie .rebased none s).cc = s.cc := by rw [hk]
  have hch : chainage (endTie .rebased none s) = chainage s := by unfold chainage; rw [hcc]
  have hh1 : headerIn (sheetAt (endTie .rebased none s) n).body = some hd := by unfold sheetAt; rw [hss]; exact hh
  have hg1 : (segmentsOf (sheetAt (endTie .rebased none s) n).body)[k0]? = some g := by unfold sheetAt; rw [hss]; exact hg
  refine (endTie_moves .rebased none s).trans ?_
  unfold firstTie
  simp only [hh1]
  rw [← hch] at hc ⊢
  rw [← hcc] at hc
  generalize endTie .rebased none s = s1 at *
  cases hd' : hd.startDepth with
  | some d =>
    dsimp only
    refine (modifyEntry_moves (i := e) (f := fun p => { p with tie := some { pb := d, cb := chainage s1 } })
      (fun _ => rfl) s1).trans ?_
    exact contexts_moves (s := modifyEntry e _ s1) (b := s1.te.bench) (pause := id) hg1 hh1 hc
      (fun none => by rw [modifyEntry_te] at none; simp [none, hd'])
  | none =>
    dsimp only
    refine (modifyEntry_moves (i := e) (f := fun p => { p with tie := none }) (fun _ => rfl) s1).trans ?_
    exact contexts_moves (s := modifyEntry e _ s1) (pause := fun p => { p with bench := true }) hg1 hh1 hc
      (fun _ => by simp [hd'])

/-- The chainage a DIG starts from: its own, set, or the one that stands (R145 step 1). -/
def setAtStart (c0 : Option Nat) (s : State) : State :=
  match c0 with
  | some c => setTheChainage c s
  | none => s

/-- The start of a DIG once its chainage is fixed (R145 steps 2 to 7). -/
def startDigHere (n : Fin 6) (k0 : Nat) (e : Fin 8) (s : State) : State :=
  let s3 := { makeActive e s with cc := { (makeActive e s).cc with chw := some (chainage s) } }
  let s4 := createRun n k0 (chainage s) (firstTie n e (chainage s) s3)
  match headerIn (sheetAt s4 n).body with
  | some h => createLoop .dig h.shallow h.deep .absent s4
  | none => s4

theorem startDig_eq (n : Fin 6) (k0 : Nat) (e : Fin 8) (c0 : Option Nat) (s : State) :
    startDig n k0 e c0 s = startDigHere n k0 e (setAtStart c0 s) := rfl

/-- A setting touches no sheet and no plane, and leaves the kind of the executing operation as it was. -/
theorem setAtStart_keeps (c0 : Option Nat) (s : State) :
    (setAtStart c0 s).ss = s.ss ∧ (setAtStart c0 s).pat = s.pat
      ∧ executingKind (setAtStart c0 s) = executingKind s := by
  cases c0 with
  | none => exact ⟨rfl, rfl, rfl⟩
  | some c => exact ⟨rfl, rfl, executingKind_setTheChainage c s⟩

theorem setAtStart_moves {n : Fin 6} {k0 : Nat} {e : Fin 8} {c0 : Option Nat} {s : State}
    (hop : ∃ op ∈ s.oq.ops, op.params = .dig n k0 e c0) : Moves own .starting s .starting (setAtStart c0 s) := by
  cases c0 with
  | none => exact .done
  | some c =>
    refine .one (.setting (.inr rfl) fun inRange => ?_)
    obtain ⟨op, mem, hparams⟩ := hop
    have := List.all_eq_true.mp inRange op mem
    simpa [startInRange, hparams] using this

theorem firstTie_ss (n : Fin 6) (e : Fin 8) (c : Nat) (s : State) : (firstTie n e c s).ss = s.ss := by
  have hend := congrArg State.ss (endTie_keeps .rebased none s)
  unfold firstTie startBench
  dsimp only
  split
  · split <;> exact hend
  · exact hend

theorem createRun_ss (n : Fin 6) (k0 c : Nat) (s : State) : (createRun n k0 c s).ss = s.ss := by
  unfold createRun fireMarker
  dsimp only
  split
  · split <;> rfl
  · rfl

/-- The start of a DIG on a segment of its sheet, once its chainage is fixed. -/
theorem startDigHere_moves {n : Fin 6} {k0 : Nat} {e : Fin 8} {g : Segment} {s : State}
    (hk : executingKind s = some .dig) (hg : (segmentsOf (sheetAt s n).body)[k0]? = some g)
    (hrole : (entryAt s e).role = .standby ∨ (entryAt s e).role = .active) :
    Moves own .starting s .settled (startDigHere n k0 e s) := by
  obtain ⟨hd, hh⟩ := headerIn_isSome_of_segment hg
  have hkeep := makeActive_keeps e s
  have hss : (makeActive e s).ss = s.ss := by rw [hkeep]
  have hch : chainage (makeActive e s) = chainage s := by rw [hkeep]; rfl
  have hk2 : executingKind (makeActive e s) = some .dig := by rw [← hk, hkeep]; rfl
  refine (Moves.one (.makeActive hrole)).trans ((Moves.one (.place hk2)).trans ?_)
  unfold startDigHere
  rw [← hch]
  generalize makeActive e s = s2 at *
  dsimp only
  have sheet : ∀ t : State, t.ss = s2.ss → sheetAt t n = sheetAt s n := fun t h => by simp only [sheetAt, h, hss]
  have hh4 : headerIn (sheetAt (createRun n k0 (chainage s2) (firstTie n e (chainage s2)
      { s2 with cc := { s2.cc with chw := some (chainage s2) } })) n).body = some hd := by
    rw [sheet _ (by rw [createRun_ss, firstTie_ss]), hh]
  simp only [hh4]
  have sheet3 := sheet { s2 with cc := { s2.cc with chw := some (chainage s2) } } rfl
  exact firstTie_contexts_moves (g := g) (by rw [sheet3, hg]) (by rw [sheet3, hh]) rfl

/-- The start actions of a DIG that has passed its checks (R145). -/
theorem startDig_moves {n : Fin 6} {k0 : Nat} {e : Fin 8} {c0 : Option Nat} {s : State}
    (hk : executingKind s = some .dig) (hop : ∃ op ∈ s.oq.ops, op.params = .dig n k0 e c0)
    (hcheck : digCheck n k0 e c0 s = none) : Moves own .starting s .settled (startDig n k0 e c0 s) := by
  obtain ⟨hlen, hrole⟩ := digCheck_eq_none hcheck
  obtain ⟨hss, hpat, hkind⟩ := setAtStart_keeps c0 s
  rw [startDig_eq]
  refine (setAtStart_moves hop).trans (startDigHere_moves (g := (segmentsOf (sheetAt s n).body)[k0]) ?_ ?_ ?_)
  · rw [hkind, hk]
  · unfold sheetAt; rw [hss]; exact List.getElem?_eq_getElem hlen
  · unfold entryAt; rw [hpat]; exact hrole

theorem executingKind_modifyHead (f : RunInfo → RunInfo) (s : State) :
    executingKind (modifyHead f s) = executingKind s := by
  unfold modifyHead
  split
  · rfl
  next op rest h =>
    split
    · rfl
    next info hinfo => rw [executingKind_of_head h hinfo]; rfl

/-- The start actions of an operation that has passed its checks. -/
theorem startActions_moves {s : State} {op : Operation} (hk : executingKind s = some (kindOf op.params))
    (mem : op.params ∈ s.oq.ops.map (·.params)) (hcheck : startCheck op.params s = none) :
    Moves own .starting s .settled (startActions op.params s) := by
  have hop : ∃ x ∈ s.oq.ops, x.params = op.params := by simpa using mem
  cases hp : op.params with
  | dig n k0 e c0 =>
    rw [hp] at hk hop hcheck
    exact startDig_moves hk hop hcheck
  | plunge d =>
    rw [hp] at hk
    exact (Moves.one (.startLoop (.inr hk) rfl rfl)).trans (withPause_moves (fun x => { x with beam := true }) _)
  | hold target distance =>
    rw [hp, ← executingKind_modifyHead fun i => { i with cycles := 1, cycleChainage := chainage s }] at hk
    exact (modifyHead_moves _ s).trans
      ((Moves.one (.startLoop (.inl hk) rfl rfl)).trans (withPause_moves (fun x => { x with beam := true }) _))
  | lift =>
    rw [hp] at hk
    exact .one (.startLift hk)
  | dwell time =>
    rw [hp] at hk
    exact (Moves.one (.startDwell hk)).trans ((modifyHead_moves _ _).trans (.quiet {}))

/-! ## The head leaves, and the next starts -/

theorem leaveQueue_length {s : State} {op : Operation} {rest : List Operation} (h : s.oq.ops = op :: rest)
    (out : OpOutcome) (why : OpReason) : (leaveQueue out why s).oq.ops.length = rest.length := by
  rw [(leaveQueue_cons h out why).1]

/-- An operation that has begun without a context leaves, and the next stands at the head (R144, R150). -/
theorem mark_leave_moves {s : State} {op : Operation} {rest : List Operation} (h : s.oq.ops = op :: rest)
    (out : OpOutcome) (why : OpReason) : Moves own .between s .between (leaveQueue out why (markStarted s)) :=
  .cons (.mark h) (.one (.leave out why (by rw [markStarted_cons h])))

theorem startHead_moves : ∀ (fuel : Nat) (s : State), s.oq.ops.length < fuel →
    Moves own .between s .settled (startHead fuel s)
  | 0, _, h => absurd h (Nat.not_lt_zero _)
  | fuel + 1, s, h => by
    unfold startHead
    split
    next hnil => exact idleSequencer_moves (.inr rfl) hnil
    next op rest hcons =>
      have hmarked : (markStarted s).oq.ops.length = rest.length + 1 := by rw [markStarted_cons hcons]; rfl
      have fewer : ∀ out why, (leaveQueue out why (markStarted s)).oq.ops.length < fuel := by
        intro out why
        rw [leaveQueue_length (by rw [markStarted_cons hcons])]
        rw [hcons] at h
        exact Nat.lt_of_succ_lt_succ h
      dsimp only
      split
      next why _ => exact (mark_leave_moves hcons _ _).trans (startHead_moves fuel _ (fewer _ _))
      next hcheck =>
        split
        · exact (mark_leave_moves hcons _ _).trans (startHead_moves fuel _ (fewer _ _))
        · refine (Moves.one (.mark hcons)).trans (startActions_moves (executingKind_markStarted hcons) ?_ hcheck)
          rw [markStarted_cons hcons]
          simp

theorem completeHead_moves (out : OpOutcome) (why : OpReason) (s : State) :
    Moves own .settled s .settled (completeHead out why s) := by
  unfold completeHead
  dsimp only
  cases h : s.oq.ops with
  | nil =>
    rw [leaveQueue_nil h, startHead_nil h]
    exact idleSequencer_moves (.inl rfl) h
  | cons op rest => exact (Moves.one (.leave out why h)).trans (startHead_moves _ _ (Nat.lt_succ_self _))

theorem leftPhase_idem (p : Phase) : leftPhase (leftPhase p) = leftPhase p := by cases p <;> rfl

theorem flushWaiting_moves (why : OpReason) : ∀ (n : Nat) (s : State),
    Moves own (leftPhase p) s (leftPhase p) (flushWaiting why n s)
  | 0, _ => .done
  | n + 1, s => by
    refine .trans ?_ (flushWaiting_moves why n _)
    cases h : s.oq.ops with
    | nil => rw [leaveQueue_nil h]; exact .done
    | cons op rest =>
      have m := Move.leave (own := own) (p := leftPhase p) .flushed why h
      rw [leftPhase_idem] at m
      exact .one m

/-- Emptying the queue: with an operation in it the head leaves, and the waiting ones after it (R153). -/
theorem emptyQueue_moves_of_cons {s : State} {op : Operation} {rest : List Operation} (h : s.oq.ops = op :: rest)
    (out : OpOutcome) (why : OpReason) : Moves own p s (leftPhase p) (emptyQueue out why s) := by
  unfold emptyQueue
  dsimp only
  split
  · exact (Moves.one (.leave out why h)).trans (flushWaiting_moves why _ _)
  · have : flushWaiting why s.oq.ops.length s = flushWaiting why rest.length (leaveQueue .flushed why s) := by rw [h]; rfl
    rw [this]
    exact (Moves.one (.leave _ why h)).trans (flushWaiting_moves why _ _)

theorem emptyQueue_of_nil {s : State} (h : s.oq.ops = []) (out : OpOutcome) (why : OpReason) : emptyQueue out why s = s := by
  have : executing s = none := by simp [executing, h]
  simp [emptyQueue, this, h, flushWaiting]

/-- The queue is emptied and the sequencer rests (R153, R160). -/
theorem emptyQueue_idle_moves (out : OpOutcome) (why : OpReason) (s : State) :
    Moves own .settled s .settled (idleSequencer (emptyQueue out why s)) := by
  have hempty := emptyQueue_ops out why s
  cases h : s.oq.ops with
  | nil => rw [emptyQueue_of_nil h]; exact idleSequencer_moves (.inl rfl) h
  | cons op rest => exact (emptyQueue_moves_of_cons h out why).trans (idleSequencer_moves (.inr rfl) hempty)

theorem newCycle_moves (x : OpParams) (s : State) : Moves own p s p (newCycle x s) := by
  unfold newCycle
  split
  · exact modifyHead_moves _ s
  · exact (modifyHead_moves _ s).trans (.quiet {})
  · exact .done

theorem endCycle_moves (why : OpReason) (s : State) : Moves own .settled s .settled (endCycle why s) := by
  unfold endCycle
  split
  · exact .done
  · split
    · exact newCycle_moves _ s
    · exact completeHead_moves _ _ s

/-! ## The boundary of the current segment -/

/-- A change of the run context that keeps its start and tells the same of a bench. -/
theorem setRun_moves {s : State} {r : RunCtx} (hr : s.lt = some r) (r' : RunCtx) (hc : r'.c0 = r.c0)
    (h : r'.phase = .benching ↔ r.phase = .benching) : Moves own .settled s .settled { s with lt := some r' } :=
  .one (.run (b := s.te.bench) hr hc fun hb => hb.trans h.symm)

theorem exchange_moves (s : State) : Moves own .settled s .settled (exchange s) := by
  unfold exchange
  split
  · exact .done
  next r hr =>
    dsimp only
    split
    · exact .done
    next st _ =>
      split
      · exact .done
      next g _ =>
        let c := currentOf st.index st.cs st.invert g
        exact (setRun_moves hr { r with cur := c, staged := stagedAfter (segmentsOf (sheetAt s r.sheet).body) c } rfl
            Iff.rfl).trans ((clearWindow_moves _).trans ((fire_moves _ _).trans (fireMarker_moves _ _)))

theorem completeIfStill_moves (out : OpOutcome) (why : OpReason) (s : State) :
    Moves own .settled s .settled (completeIfStill out why s) := by
  unfold completeIfStill
  split
  · exact completeHead_moves _ _ s
  · exact .done

/-- A run that halts was RUNNING, so that no bench goes with it (R59). -/
theorem holdAtEnd_moves {s : State} {r : RunCtx} (hr : s.lt = some r) (hrun : r.phase = .running) (st : StagedSegment) :
    Moves own .settled s .settled (holdAtEnd r st s) :=
  (setRun_moves hr { r with frozen := some st.cs, phase := .segmentHold } rfl (by simp [hrun])).trans
    ((withPause_moves _ _).trans (fire_moves _ _))

/-- A run that ends was RUNNING, so that no bench goes with it (R64). -/
theorem reachEnd_moves {s : State} {r : RunCtx} (hr : s.lt = some r) (hrun : r.phase = .running) :
    Moves own .settled s .settled (reachEnd r s) :=
  (setRun_moves hr { r with frozen := some (endChainage r.cur), phase := .ended } rfl (by simp [hrun])).trans
    (fire_moves _ _)

theorem boundaryTest_moves : ∀ (fuel : Nat) (s : State), Moves own .settled s .settled (boundaryTest fuel s)
  | 0, _ => .done
  | fuel + 1, s => by
    unfold boundaryTest
    split
    next r high hr hc =>
      split
      next hrun =>
        split
        · split
          · exact (exchange_moves s).trans (boundaryTest_moves fuel _)
          · exact holdAtEnd_moves hr hrun.1 _
        · exact (reachEnd_moves hr hrun.1).trans (completeIfStill_moves _ _ _)
      · exact .done
    · exact .done

theorem testBoundary_moves (s : State) : Moves own .settled s .settled (testBoundary s) := by
  unfold testBoundary
  split
  · exact boundaryTest_moves _ s
  · exact .done

end Sys2Proof.Proofs
end

section
/-! The Grade Loop, the Tie Engine and the Chainage Counter as chains of moves. -/

namespace Sys2Proof.Proofs

open Sys2Proof.Machine Sys2Proof.Safety Sys2Proof.Laws

/- The case splits of this file are elaborated in order: side by side each waits for the equations of the model's functions
in a thread of its own, and the threads' stacks come up to the memory the check allows. -/
set_option Elab.async false

variable {own : Owner} {p : Phase}

/-! ## The loop states -/

theorem modifyLoop_eq {s : State} {l : LoopCtx} (hl : s.gl.loop = some l) (f : LoopCtx → LoopCtx) :
    modifyLoop f s = { s with gl := { s.gl with loop := some (f l) } } := by
  simp [modifyLoop, hl]

theorem setLoopState_eq {s : State} {l : LoopCtx} (hl : s.gl.loop = some l) (st : LoopState) :
    setLoopState st s = { s with gl := { s.gl with loop := some { l with state := st } } } := modifyLoop_eq hl _

/-- A change of the loop context that is there. -/
theorem modifyLoop_moves_of {s : State} {l : LoopCtx} (hl : s.gl.loop = some l) {f : LoopCtx → LoopCtx}
    (h : LoopStep l (f l)) : Moves own p s p (modifyLoop f s) := by
  rw [modifyLoop_eq hl]; exact .one (.loop hl h)

@[simp] theorem natAbs_driveOf (dir : Direction) (level : Nat) : (driveOf dir level).natAbs = level := by
  cases dir <;> simp [driveOf]

theorem driveMin_le_fullLevel (k : Constants) : k.driveMin ≤ fullLevel k := Nat.le_max_right _ _

theorem halvedLevel_le {k : Constants} {level : Nat} (h : level ≤ fullLevel k) : halvedLevel k level ≤ fullLevel k :=
  Nat.max_le.mpr ⟨Nat.le_trans (Nat.div_le_self _ _) h, driveMin_le_fullLevel k⟩

theorem enterCoasting_moves {s : State} {l : LoopCtx} (hl : s.gl.loop = some l) :
    Moves own .settled s .settled (enterCoasting s) :=
  .one (.drive (v := 0) (st := .coasting (chainage s) s.clock) hl fun _ => ⟨Nat.zero_le _, rfl⟩)

theorem enterSearch_moves {s : State} {l : LoopCtx} (hl : s.gl.loop = some l) (left : SearchFrom) (dir : Direction) :
    Moves own .settled s .settled (enterSearch left dir s) :=
  (Moves.one (.drive hl fun _ => ⟨by rw [natAbs_driveOf]; exact Nat.le_refl _, by simp [levelBounded]⟩)).trans
    (fire_moves _ _)

theorem enterLost_moves {s : State} {l : LoopCtx} (hl : s.gl.loop = some l) (cause : LostCause) (left : LoopState) :
    Moves own .settled s .settled (enterLost cause left s) := by
  unfold enterLost
  exact (Moves.one (.drive (v := 0) (st := .lost none) hl fun _ => ⟨Nat.zero_le _, rfl⟩)).trans
    ((withPause_moves (fun p => { p with beam := true, resumeWait := false }) _).trans (fire_moves _ _))

theorem flipSearch_moves {s : State} {l : LoopCtx} (hl : s.gl.loop = some l) {dir : Direction} {level start : Nat}
    {due : Time} {flips : Nat} {since : Time} (hst : l.state = .searching dir level start due flips since) :
    Moves own .settled s .settled (flipSearch dir level start due flips since s) := by
  unfold flipSearch
  split
  · exact enterLost_moves hl _ _
  · refine .one (.drive hl fun bounded => ?_)
    have := halvedLevel_le (k := s.clp.consts) (level := level) (by simpa [hst, levelBounded] using bounded)
    simpa [driveBound, levelBounded] using this

theorem startLostDrive_moves {s : State} {l : LoopCtx} (hl : s.gl.loop = some l) (dir : Direction) {level : Nat}
    (h : levelBounded s.clp.consts l.state = true → level ≤ fullLevel s.clp.consts) :
    Moves own .settled s .settled (startLostDrive dir level s) :=
  .one (.drive hl fun bounded => by simpa [driveBound, levelBounded] using h bounded)

theorem strikeInLost_moves {s : State} {l : LoopCtx} (hl : s.gl.loop = some l) (dir : Direction)
    {drive : Option LostDrive} (hst : l.state = .lost drive) :
    Moves own .settled s .settled (strikeInLost dir drive s) := by
  unfold strikeInLost
  split
  · exact startLostDrive_moves hl dir fun _ => Nat.le_refl _
  next d =>
    split
    · exact modifyLoop_moves_of hl ⟨id, fun k => by simp [hst, driveBound], fun k h => by simpa [hst, levelBounded] using h⟩
    · exact startLostDrive_moves hl dir fun bounded => halvedLevel_le (by simpa [hst, levelBounded] using bounded)

theorem strikeOutside_moves {s : State} {l : LoopCtx} (hl : s.gl.loop = some l) (dir : Direction) :
    Moves own .settled s .settled (strikeOutside dir l.state s) := by
  unfold strikeOutside
  split
  next hst =>
    split
    · exact .done
    · exact flipSearch_moves hl hst
  next hst => exact strikeInLost_moves hl dir hst
  · exact enterSearch_moves hl _ dir

/-- The transition a strike in the window makes before it is computed (R101, R102, R110, R113). -/
theorem beamSeen_moves {s : State} {l : LoopCtx} (hl : s.gl.loop = some l) (st : LoopState) (d : Int) :
    Moves own .settled s .driving (beamSeen st d s) := by
  have seen : Moves own .settled s .driving (setLoopState (trackingNow s) s) := by
    rw [setLoopState_eq hl]; exact .one (.seen hl)
  have cleared := seen.trans (clearWindow_moves _)
  unfold beamSeen
  split
  · exact seen.trans (withPause_moves _ _)
  · exact seen
  · have regained := cleared.trans (withPause_moves (fun p => { p with beam := false }) _)
    unfold regain
    dsimp only
    split
    · exact regained.trans (fire_moves _ _)
    · exact regained.trans ((withPause_moves _ _).trans (fire_moves _ _))
    · exact regained

theorem beamSeen_loop_isSome {s : State} (h : s.gl.loop.isSome = true) (st : LoopState) (d : Int) :
    (beamSeen st d s).gl.loop.isSome = true := by
  unfold beamSeen
  split
  · simpa using h
  · simpa using h
  · unfold regain
    dsimp only
    split <;> simpa using h

/-! ## The computation of a strike -/

theorem fireTiltClamp_moves (user : TiltUser) (s : State) : Moves own p s p (fireTiltClamp user s) := by
  unfold fireTiltClamp
  split
  · exact .done
  · exact fire_moves _ s

theorem fireTiltClamp_keeps (user : TiltUser) (s : State) :
    fireTiltClamp user s = { s with clp := (fireTiltClamp user s).clp } := by
  unfold fireTiltClamp; split <;> rfl

theorem latchTarget_moves (d : Int) (s : State) : Moves own p s p (latchTarget d s) := by
  unfold latchTarget
  split
  · split
    · exact (modifyLoop_moves (f := fun x => { x with target := .latched d })
        (fun _ => ⟨id, fun _ => rfl, fun _ h => h⟩) s).trans (clearWindow_moves _)
    · exact .done
  · exact .done

theorem latchTarget_loop_isSome (d : Int) (s : State) :
    (latchTarget d s).gl.loop.isSome = s.gl.loop.isSome := by
  unfold latchTarget
  split
  · split <;> simp
  · rfl

theorem magnitude_le (k : Constants) (settle excess : Nat) : magnitude k settle excess ≤ k.driveMax := Nat.min_le_left _ _

/-- The wanted level lies within DRIVE_MAX (R88). -/
theorem natAbs_wantedLevel_le (k : Constants) (shallow deep settle : Nat) (d : Decision) (ef : Int) :
    (wantedLevel k shallow deep settle d ef).natAbs ≤ k.driveMax := by
  cases d <;> simp [wantedLevel, magnitude_le]

/-- The slew limiter never passes the wanted level (R90). -/
theorem natAbs_slewLevel_le (slew : Nat) (v wanted : Int) : (slewLevel slew v wanted).natAbs ≤ wanted.natAbs := by
  unfold slewLevel
  dsimp only
  split_ifs <;> omega

theorem pushError_length_le {window : List Int} (h : window.length ≤ 4) (e : Int) : (pushError window e).length ≤ 4 := by
  unfold pushError
  dsimp only
  split <;> simp at * <;> omega

theorem reachAfter_moves (d : Decision) (limit : LimitMark) (cut : Int) (s : State) :
    Moves own p s p (reachAfter d limit cut s) := by
  unfold reachAfter
  split
  · unfold setReach
    dsimp only
    split
    · exact withPause_moves _ s
    · exact (withPause_moves _ s).trans (fire_moves _ _)
  · exact .done
  · exact withPause_moves _ s

theorem reachAfter_keeps (d : Decision) (limit : LimitMark) (cut : Int) (s : State) :
    (reachAfter d limit cut s).gl = s.gl ∧ (reachAfter d limit cut s).clp.consts = s.clp.consts := by
  unfold reachAfter setReach
  split
  · dsimp only
    split <;> simp
  · exact ⟨rfl, rfl⟩
  · exact ⟨rfl, rfl⟩

theorem strikeWithoutTarget_moves {s : State} {l : LoopCtx} (hl : s.gl.loop = some l) (q : QStrike) (depth : Int) :
    Moves own .driving s .settled (strikeWithoutTarget q depth l s) :=
  (Moves.one (.driven (by simp [hl]) (Nat.zero_le _))).trans
    (modifyLoop_moves_of (s := handOn 0 s) hl ⟨id, fun _ => rfl, fun _ h => h⟩)

theorem strikeWithTarget_moves {s : State} {l : LoopCtx} (hl : s.gl.loop = some l) (q : QStrike) (depth target : Int)
    (line : Option LinePart) : Moves own .driving s .settled (strikeWithTarget q depth target line l s) := by
  unfold strikeWithTarget
  extract_lets k window ef d wanted slewed hold held limit final count errors record s1 s2
  obtain ⟨hgl, hconsts⟩ := reachAfter_keeps d limit held s
  have hfinal : final.natAbs ≤ k.driveMax := by
    have hslewed : slewed.natAbs ≤ k.driveMax :=
      Nat.le_trans (natAbs_slewLevel_le _ _ _) (natAbs_wantedLevel_le _ _ _ _ _ _)
    have hheld : held.natAbs ≤ k.driveMax := by
      simp only [held]; split
      · exact Nat.zero_le _
      · exact hslewed
    simp only [final]; split
    · exact hheld
    · exact Nat.zero_le _
  have driven : Moves own .driving s .settled s1 :=
    (reachAfter_moves d limit held s).trans (.one (.driven (by rw [hgl, hl]; rfl) (by rw [hconsts]; exact hfinal)))
  have hl1 : s1.gl.loop = some l := by simp only [s1, handOn_gl, hgl, hl]
  have computed : Moves own .driving s .settled s2 :=
    driven.trans (modifyLoop_moves_of hl1 ⟨fun h => pushError_length_le h _, fun _ => rfl, fun _ h => h⟩)
  split
  · exact computed.trans (completeHead_moves _ _ _)
  · exact computed

theorem computeStrike_moves {s : State} (h : s.gl.loop.isSome = true) (q : QStrike) (b : Int) :
    Moves own .driving s .settled (computeStrike q b s) := by
  unfold computeStrike
  extract_lets depth s1
  have toS1 : Moves own .driving s .driving s1 := (fireTiltClamp_moves _ s).trans (latchTarget_moves _ _)
  have hs1 : s1.gl.loop.isSome = true := by
    simp only [s1]; rw [latchTarget_loop_isSome, fireTiltClamp_keeps]; exact h
  split
  next none => simp [none] at hs1
  next l hl =>
    split
    · exact toS1.trans (strikeWithTarget_moves hl _ _ _ _)
    · exact toS1.trans (strikeWithoutTarget_moves hl _ _)

theorem loopStrike_moves (q : QStrike) (s : State) : Moves own .settled s .settled (loopStrike q s) := by
  unfold loopStrike
  split
  · exact .done
  next l hl =>
    split
    · split
      · exact (beamSeen_moves hl _ _).trans (computeStrike_moves (beamSeen_loop_isSome (by simp [hl]) _ _) _ _)
      · exact strikeOutside_moves hl _
      · exact strikeOutside_moves hl _
      · exact .done
    · exact .done

theorem limitAtSample_moves (s : State) : Moves own .settled s .settled (limitAtSample s) := by
  have limited : Moves own .settled s .settled (match limitOf s.clp.consts (strokeSeen s) s.gl.v with
      | .bottom => setReach s.gl.v (handOn 0 s)
      | .top => handOn 0 s
      | .none => s) := by
    split
    · exact (Moves.one .cut).trans (reachAfter_moves .lower .bottom s.gl.v _)
    · exact .one .cut
    · exact .done
  unfold limitAtSample
  dsimp only
  split
  · exact limited.trans (withPause_moves _ _)
  · exact limited

theorem watchLoop_moves (s : State) : Moves own .settled s .settled (watchLoop s) := by
  unfold watchLoop
  split
  next hl => exact enterLost_moves hl _ _
  · exact .done

/-! ## The bench -/

theorem modifyBench_moves (f : Bench → Bench) (s : State) : Moves own p s p (modifyBench f s) :=
  .quiet { bench := by simp }

theorem restartForMovement_moves (s : State) : Moves own p s p (restartForMovement s) :=
  (modifyBench_moves _ s).trans (countBenchRestart_moves _)

theorem restartForSpread_moves (s : State) : Moves own p s p (restartForSpread s) :=
  (modifyBench_moves _ s).trans (countBenchRestart_moves _)

theorem finishBench_moves {s : State} {r : RunCtx} (hr : s.lt = some r) (e : Fin 8) (b : Bench) :
    Moves own .settled s .settled (finishBench e b r s) := by
  unfold finishBench
  extract_lets t s1 s2 s3
  have toS3 : Moves own .settled s .settled s3 :=
    (modifyEntry_moves (i := e) (f := fun p => { p with tie := some t }) (fun _ => rfl) s).trans
      ((fire_moves _ _).trans (withPause_moves _ _))
  have run := Moves.one (own := own) (.run (s := s3) (r' := { r with phase := .running }) (b := none) hr rfl (by simp))
  exact toS3.trans (run.trans (testBoundary_moves _))

theorem judgeBench_moves (e : Fin 8) (b : Bench) (s : State) : Moves own .settled s .settled (judgeBench e b s) := by
  unfold judgeBench
  split
  · exact restartForSpread_moves s
  · split
    next hr => exact finishBench_moves hr e b
    · exact .done

theorem benchStep_moves (q : QStrike) (s : State) : Moves own .settled s .settled (benchStep q s) := by
  unfold benchStep
  split
  · split
    · split
      · unfold sampleBench
        dsimp only
        split
        · exact (fireTiltClamp_moves _ s).trans (restartForMovement_moves _)
        · split
          · exact (fireTiltClamp_moves _ s).trans ((modifyBench_moves _ _).trans (judgeBench_moves _ _ _))
          · exact (fireTiltClamp_moves _ s).trans (modifyBench_moves _ _)
      · exact .done
    · exact .done
  · exact .done

theorem watchBench_moves (s : State) : Moves own p s p (watchBench s) := by
  unfold watchBench
  split
  · exact .done
  · split
    · exact .done
    · split
      · exact restartForMovement_moves s
      · exact .done

/-! ## The transfer -/

theorem natAbs_clampInt_le (limit : Nat) (v : Int) : (clampInt (-(limit : Int)) limit v).natAbs ≤ limit := by
  unfold clampInt; omega

theorem trackAtTransfer_moves {s : State} {l : LoopCtx} (hl : s.gl.loop = some l) (last : LastStrike) :
    Moves own .settled s .settled (trackAtTransfer last s) := by
  have hle := natAbs_clampInt_le s.clp.consts.driveMax s.gl.v
  unfold trackAtTransfer
  dsimp only
  split
  next same =>
    rw [same] at hle
    rw [setLoopState_eq hl]
    exact (Moves.one (.track hl hle)).trans (withPause_moves _ _)
  · exact (Moves.one (.drive (st := .tracking (after last.time s.clp.consts.lossTime)) hl fun _ => ⟨hle, rfl⟩)).trans
      (withPause_moves (fun p => { p with beam := false }) _)

theorem loopFromLast_moves {s : State} {l : LoopCtx} (hl : s.gl.loop = some l) (last : Option LastStrike) :
    Moves own .settled s .settled (loopFromLast last s) := by
  unfold loopFromLast
  split
  · exact enterCoasting_moves hl
  · split
    · split
      · exact trackAtTransfer_moves hl _
      · exact enterCoasting_moves hl
    · exact enterSearch_moves hl _ _
    · exact enterSearch_moves hl _ _
    · exact enterCoasting_moves hl

theorem tellTransfer_moves (s : State) : Moves own p s p (tellTransfer s) := by
  refine Moves.trans (modifyLoop_moves (fun l => ?_) s) (clearWindow_moves _)
  split <;> exact ⟨id, fun _ => rfl, fun _ h => h⟩

theorem transferLoop_moves (e : Fin 8) (s : State) : Moves own .settled s .settled (transferLoop e s) := by
  unfold transferLoop
  split
  · exact .done
  next l hl =>
    refine (tellTransfer_moves s).trans ?_
    have hl' : ∃ l', (tellTransfer s).gl.loop = some l' := by simp [tellTransfer, hl]
    obtain ⟨l', hl'⟩ := hl'
    unfold loopAtTransfer
    split
    · exact .done
    · exact .one (.drive (v := 0) (st := .lost none) hl' fun _ => ⟨Nat.zero_le _, rfl⟩)
    · exact loopFromLast_moves hl' _

theorem trackAtTransfer_setTe (last : LastStrike) (x : Te) (s : State) :
    trackAtTransfer last { s with te := x } = { trackAtTransfer last s with te := x } := by
  unfold trackAtTransfer
  by_cases h : clampInt (-(s.clp.consts.driveMax : Int)) s.clp.consts.driveMax s.gl.v = s.gl.v
  · simp only [if_pos h]; rfl
  · simp only [if_neg h]; rfl

theorem loopFromLast_setTe (last : Option LastStrike) (x : Te) (s : State) :
    loopFromLast last { s with te := x } = { loopFromLast last s with te := x } := by
  unfold loopFromLast
  cases last with
  | none => rfl
  | some k =>
    dsimp only
    cases k.beam with
    | inWindow b =>
      by_cases h : elapsed s.clock k.time < s.clp.consts.lossTime
      · simp only [if_pos h]; exact trackAtTransfer_setTe k x s
      · simp only [if_neg h]; rfl
    | above => rfl
    | below => rfl
    | split => rfl

/-- The Grade Loop is told of a transfer without a look at the tie engine. -/
theorem transferLoop_setTe (e : Fin 8) (x : Te) (s : State) :
    transferLoop e { s with te := x } = { transferLoop e s with te := x } := by
  unfold transferLoop
  dsimp only
  split
  · rfl
  next l _ =>
    have told : tellTransfer { s with te := x } = { tellTransfer s with te := x } := rfl
    rw [told]
    unfold loopAtTransfer
    split
    · rfl
    · rfl
    · exact loopFromLast_setTe _ x _

theorem transferLoop_te (e : Fin 8) (s : State) : (transferLoop e s).te = s.te := by
  have same := congrArg (fun t : State => t.te) (transferLoop_setTe e s.te s)
  exact same

/-- The transfer as its moves make it: the roles first, with the end of the tie, and then the loop. -/
theorem transfer_eq (r : TieRecord) (result : TieResult) (s : State) :
    transfer r result s =
      fire (.transfer r.candidate ((activeEntry s).getD r.candidate) result.tie
          ((transferLoop r.candidate (rolesPassed r.candidate result.tie s)).gl.loop.map fun l => loopName l.state))
        (transferLoop r.candidate { rolesPassed r.candidate result.tie s with
          te := { s.te with tie := none, last := some (.transferred r.candidate result.tie result.spread) } }) := by
  have hroles : (rolesPassed r.candidate result.tie s).te = s.te := by unfold rolesPassed; dsimp only; split <;> rfl
  have hte : (transferLoop r.candidate (rolesPassed r.candidate result.tie s)).te = s.te := by
    rw [transferLoop_te, hroles]
  rw [transferLoop_setTe r.candidate
    { s.te with tie := none, last := some (.transferred r.candidate result.tie result.spread) }
    (rolesPassed r.candidate result.tie s), ← hte]
  rfl

/-- The record a transfer is made from may have grown since the tie was last written. -/
theorem transfer_moves {s : State} {r r' : TieRecord} (hr : s.te.tie = some r) (hc : r'.candidate = r.candidate)
    (x : Option TieRecord) (result : TieResult) :
    Moves own .settled s .settled (transfer r' result { s with te := { s.te with tie := x } }) := by
  rw [transfer_eq, hc]
  refine .trans (.one (.transfer (t := result.tie)
    (o := some (.transferred r.candidate result.tie result.spread)) hr)) ((transferLoop_moves r.candidate _).trans ?_)
  have : { rolesPassed r.candidate result.tie { s with te := { s.te with tie := x } } with
        te := { s.te with tie := none, last := some (.transferred r.candidate result.tie result.spread) } }
      = { rolesPassed r.candidate result.tie s with
        te := { s.te with tie := none, last := some (.transferred r.candidate result.tie result.spread) } } := by
    unfold rolesPassed
    dsimp only
    have hact : activeEntry { s with te := { s.te with tie := x } } = activeEntry s := rfl
    rw [hact]
    cases activeEntry s <;> rfl
  rw [← this]
  exact fire_moves _ _

end Sys2Proof.Proofs
end

section
/-! The rest of the blocks as chains of moves, and every command. -/

namespace Sys2Proof.Proofs

open Sys2Proof.Machine Sys2Proof.Safety Sys2Proof.Laws

/- The case splits of this file are elaborated in order: side by side each waits for the equations of the model's functions
in a thread of its own, and the threads' stacks come up to the memory the check allows. -/
set_option Elab.async false

variable {own : Owner} {p : Phase}

/-! ## Pairing -/

theorem modifyTie_moves {s : State} {r : TieRecord} (hr : s.te.tie = some r) {f : TieRecord → TieRecord}
    (hc : (f r).candidate = r.candidate) (h : PairsFit r → PairsFit (f r)) : Moves own p s p (modifyTie f s) := by
  have : modifyTie f s = { s with te := { s.te with tie := some (f r) } } := by simp [modifyTie, hr]
  rw [this]
  exact .one (.tie hr hc h)

/-- A collection that ends without transfer, from the record the last pair has grown to. -/
theorem endTie_grown_moves {s : State} {r r' : TieRecord} (hr : s.te.tie = some r) (hc : r'.candidate = r.candidate)
    (why : TieReason) (spread : Option Int) :
    Moves own p s p (endTie why spread { s with te := { s.te with tie := some r' } }) := by
  cases r'
  dsimp only at hc
  subst hc
  rw [endTie_of_some rfl]
  exact (fire_moves (.tieFailed r.candidate why _ spread) s).trans (.one (.endTie (r := r) hr))

/-- The record with a pair more has as many as it wants at most (R128). -/
theorem completeTie_moves {s : State} {r r' : TieRecord} (hr : s.te.tie = some r) (hc : r'.candidate = r.candidate)
    (hfit : PairsFit r → 2 ≤ r'.n ∧ r'.n ≤ 16 ∧ r'.pairs.length ≤ r'.n) :
    Moves own .settled s .settled (completeTie r' { s with te := { s.te with tie := some r' } }) := by
  have fired : ∀ result spread, Moves own .settled s .settled
      (fire (.tieDone r'.candidate result spread r'.n r'.mode) s) := fun _ _ => fire_moves _ s
  unfold completeTie
  dsimp only
  split
  · exact endTie_grown_moves hr hc _ _
  · split
    · exact endTie_grown_moves hr hc _ _
    · split
      · exact (fired _ _).trans (transfer_moves (s := fire _ s) hr hc (some r') _)
      · refine (fired _ _).trans (.one (.tie (s := fire _ s)
          (r' := { r' with timer := none, activeSlot := none, candidateSlot := none, result := some _ }) hr hc
          fun fit => ?_))
        obtain ⟨h2, h16, hlen⟩ := hfit fit
        simp [PairsFit, h2, h16, hlen]

theorem formPair_moves {s : State} {r : TieRecord} (hr : s.te.tie = some r) (hres : r.result = none) (a b : SlotStrike)
    (t : Tie) (slope : Int) : Moves own .settled s .settled (formPair r a b t slope s) := by
  unfold formPair
  extract_lets cRef q estimate r' s1
  have hs1 : s1 = { s with te := { s.te with tie := some r' } } := by simp [s1, modifyTie, hr]
  have hlen : r'.pairs.length = r.pairs.length + 1 := by simp [r']
  have hfit : PairsFit r → 2 ≤ r.n ∧ r.n ≤ 16 ∧ r.pairs.length < r.n := fun h => by
    simp [PairsFit, hres] at h; omega
  split
  · rw [hs1]
    exact completeTie_moves hr rfl fun h => by rw [hlen]; exact hfit h
  next more =>
    rw [hs1]
    refine .one (.tie hr rfl fun h => ?_)
    obtain ⟨h2, h16, _⟩ := hfit h
    have hn : r'.n = r.n := rfl
    simp only [PairsFit, hn, Bool.and_eq_true, decide_eq_true_eq, Bool.or_eq_true]
    exact ⟨⟨⟨h2, h16⟩, by omega⟩, .inr (by omega)⟩

theorem joinPair_moves {s : State} {r : TieRecord} (hr : s.te.tie = some r) (hres : r.result = none) (a b : SlotStrike) :
    Moves own .settled s .settled (joinPair r a b s) := by
  unfold joinPair
  split
  · exact formPair_moves hr hres _ _ _ _
  · exact .done

theorem offerPair_moves {s : State} {r : TieRecord} (hr : s.te.tie = some r) (hres : r.result = none)
    (stream : TieStream) (x : SlotStrike) : Moves own .settled s .settled (offerPair stream x r s) := by
  have slot : ∀ f : TieRecord → TieRecord, ((f r).candidate = r.candidate) → (PairsFit r → PairsFit (f r)) →
      Moves own .settled s .settled (modifyTie f s) := fun f hc h => modifyTie_moves hr hc h
  unfold offerPair
  split
  · split
    · split
      · exact joinPair_moves hr hres _ _
      · exact slot _ rfl id
    · exact slot _ rfl id
  · split
    · split
      · exact joinPair_moves hr hres _ _
      · exact slot _ rfl id
    · exact slot _ rfl id

theorem tieStep_moves (stream : TieStream) (q : QStrike) (s : State) : Moves own .settled s .settled (tieStep stream q s) := by
  unfold tieStep
  split
  · exact .done
  next r hr =>
    split
    next hres =>
      split
      · have hr' : (fireTiltClamp .tie s).te.tie = some r := by rw [fireTiltClamp_keeps]; exact hr
        simp only [Bool.and_eq_true, Option.isNone_iff_eq_none] at hres
        exact (fireTiltClamp_moves _ s).trans (offerPair_moves hr' hres.1 _ _)
      · exact .done
    · exact .done

theorem watchTie_moves (s : State) : Moves own .settled s .settled (watchTie s) := by
  unfold watchTie
  split
  · exact .done
  · split
    · exact endTie_moves _ _ s
    · exact .done

/-! ## Steps of the chainage -/

/-- A step of the accumulator, but for its event. -/
def steppedCc (forward : Bool) (size : Nat) (c : Cc) : Cc :=
  { c with acc := steppedAcc forward c.acc size, limitLatch := latchAfter c.limitLatch forward c.acc size }

/-- A step sets the accumulator and the latch, and may fire LINE (R25, R26). -/
theorem applyStep_eq (forward : Bool) (size : Nat) (s : State) :
    applyStep forward size s = { s with cc := steppedCc forward size s.cc }
      ∨ ∃ which, limitHit forward s.cc.acc size = some which ∧ s.cc.limitLatch = false
          ∧ applyStep forward size s
            = fire (.line (.chainageLimit which)) { s with cc := steppedCc forward size s.cc } := by
  unfold applyStep
  dsimp only
  split
  next which h =>
    split
    · exact .inl rfl
    next hl => exact .inr ⟨which, h, by simpa using hl, rfl⟩
  · exact .inl rfl

theorem applyStep_cc (forward : Bool) (size : Nat) (s : State) :
    (applyStep forward size s).cc = steppedCc forward size s.cc := by
  obtain h | ⟨_, _, _, h⟩ := applyStep_eq forward size s
  · rw [h]
  · rw [h]; rfl

/-- A step with the high-water chainage raised to where it has to be. -/
theorem applyStep_moves {s : State} {forward : Bool} {size : Nat} {chw : Option Nat}
    (hsome : chw.isSome = s.cc.chw.isSome) (hup : ∀ h h', s.cc.chw = some h → chw = some h' → h ≤ h')
    (htop : ∀ h h', s.cc.chw = some h → chw = some h' → chainage s ≤ h → steppedAcc forward s.cc.acc size / 1000 ≤ h') :
    Moves own .settled s .settled
      { applyStep forward size s with cc := { (applyStep forward size s).cc with chw := chw } } := by
  have travel : Moves own .settled s .settled { s with cc := { steppedCc forward size s.cc with chw := chw } } :=
    .one (.travel (steppedAcc_le forward _ size) hsome hup htop)
  obtain h | ⟨which, _, _, h⟩ := applyStep_eq forward size s
  · rw [h]; exact travel
  · rw [h]; exact travel.trans (fire_moves (.line (.chainageLimit which)) _)

theorem detectMovement_moves (s : State) : Moves own p s p (detectMovement s) := by
  unfold detectMovement
  split
  · exact .quiet {}
  · exact .done

theorem watchHold_moves (s : State) : Moves own .settled s .settled (watchHold s) := by
  unfold watchHold
  split
  · exact endCycle_moves _ s
  · exact .done

/-- The watchers after the high-water chainage. -/
theorem watchers_moves (s : State) :
    Moves own .settled s .settled (watchHold (watchTie (watchBench (watchLoop (detectMovement s))))) :=
  (detectMovement_moves s).trans ((watchLoop_moves _).trans ((watchBench_moves _).trans ((watchTie_moves _).trans
    (watchHold_moves _))))

theorem raiseHighWater_applyStep_moves (forward : Bool) (size : Nat) (s : State) :
    Moves own .settled s .settled (raiseHighWater (applyStep forward size s)) := by
  have hcc := applyStep_cc forward size s
  have hchw : (applyStep forward size s).cc.chw = s.cc.chw := by rw [hcc]; rfl
  have hch : chainage (applyStep forward size s) = steppedAcc forward s.cc.acc size / 1000 := by
    unfold chainage; rw [hcc]; rfl
  have same : ∀ h : ∀ h, s.cc.chw = some h → steppedAcc forward s.cc.acc size / 1000 ≤ h,
      Moves own .settled s .settled (applyStep forward size s) := fun h => by
    have m := applyStep_moves (own := own) (s := s) (forward := forward) (size := size) (chw := s.cc.chw) rfl
      (fun a b ha hb => by rw [ha] at hb; cases hb; exact Nat.le_refl _) (fun a b _ hb _ => h b hb)
    rw [← hchw] at m
    exact m
  unfold raiseHighWater
  rw [hchw]
  split
  next high hhigh =>
    split
    next above =>
      rw [hch] at above ⊢
      refine (applyStep_moves (chw := some (steppedAcc forward s.cc.acc size / 1000)) (by simp [hhigh]) ?_ ?_).trans
        (testBoundary_moves _)
      · intro a b ha hb
        cases hb
        rw [hhigh] at ha
        cases ha
        exact Nat.le_of_lt above
      · intro a b _ hb _
        cases hb
        exact Nat.le_refl _
    next below =>
      refine same fun h hh => ?_
      rw [hhigh] at hh
      cases hh
      rw [hch] at below
      omega
  next none => exact same fun h hh => by simp [none] at hh

theorem stepChainage_moves (forward : Bool) (size : Nat) (s : State) :
    Moves own .settled s .settled (stepChainage forward size s) := by
  have hcc := applyStep_cc forward size s
  unfold stepChainage
  dsimp only
  split
  next same =>
    have hsame : steppedAcc forward s.cc.acc size / 1000 = chainage s := by
      rw [← same]; unfold chainage; rw [hcc]; rfl
    have m := applyStep_moves (own := own) (s := s) (forward := forward) (size := size) (chw := s.cc.chw) rfl
      (fun a b ha hb => by rw [ha] at hb; cases hb; exact Nat.le_refl _)
      (fun a b ha hb hle => by rw [ha] at hb; cases hb; rw [hsame]; exact hle)
    have hchw : s.cc.chw = (applyStep forward size s).cc.chw := by rw [hcc]; rfl
    rw [hchw] at m
    exact m
  · exact (raiseHighWater_applyStep_moves forward size s).trans (watchers_moves _)

theorem wheelStep_moves (old new : WheelPair) (s : State) : Moves own .settled s .settled (wheelStep old new s) := by
  unfold wheelStep
  split
  · exact stepChainage_moves _ _ s
  · split
    · exact stepChainage_moves _ _ s
    · exact countWheelFault_moves s

theorem serveRun_moves (s : State) : Moves own .settled s .settled (serveRun s) := by
  unfold serveRun
  split
  · split
    · exact completeHead_moves _ _ s
    · exact completeHead_moves _ _ s
    · exact .done
  · exact .done

/-! ## Faults and samples -/

theorem declareFault_moves (cause : FaultCause) (reading : Int) (s : State) :
    Moves own .settled s .settled (declareFault cause reading s) := by
  unfold declareFault
  split
  · exact .done
  next unfaulted =>
    extract_lets f s1 s2
    have toS1 : Moves own .settled s .faulting s1 :=
      (Moves.one (.fault f (by simpa using unfaulted))).trans ((formPermit_moves _).trans (fire_moves _ _))
    have toS2 : Moves own .faulting s1 .faulting s2 := by
      cases h : s1.oq.ops with
      | nil => simp only [s2]; rw [emptyQueue_of_nil h]; exact .done
      | cons op rest => exact emptyQueue_moves_of_cons h _ _
    have faulted := Moves.one (own := own) (.faulted (s := s2) (emptyQueue_ops .failed .fault s1))
    exact toS1.trans (toS2.trans (faulted.trans (endTie_moves .fault none _)))

theorem takeItem_moves (s : State) (x : TickItem) : Moves own .settled s .settled (takeItem s x) := by
  cases x with
  | handStroke =>
    unfold takeItem handStroke
    dsimp only
    split
    · exact (limitAtSample_moves s).trans (completeHead_moves _ _ _)
    · exact limitAtSample_moves s
  | fault cause reading => exact declareFault_moves cause reading s

theorem foldl_takeItem_moves : ∀ (l : List TickItem) (s : State), Moves own .settled s .settled (l.foldl takeItem s)
  | [], _ => .done
  | x :: xs, s => (takeItem_moves s x).trans (foldl_takeItem_moves xs _)

theorem takeItems_moves (l : List TickItem) (s : State) : Moves own .settled s .settled (takeItems l s) := by
  unfold takeItems
  split
  · exact foldl_takeItem_moves l s
  · exact (Moves.quiet {}).trans (foldl_takeItem_moves _ _)

theorem sampleOutputs_moves (r : Readings) (s : State) : Moves own .settled s .settled (sampleOutputs r s) := by
  have taken : Moves own .settled s .settled (takeSamples r s) :=
    .quiet { sm := by rw [takeSamples_sm, Option.map_map]; rfl }
  exact taken.trans ((takeItems_moves _ _).trans (formPermit_moves _))

/-! ## The requests of the queue -/

theorem softAbortRun_moves {s : State} {r : RunCtx} (hr : s.lt = some r) :
    Moves own .settled s .settled (softAbortRun r s) := by
  unfold softAbortRun
  split
  · let r' : RunCtx := { r with softAborted := true, phase := .stopping, frozen := frozenAtSoftAbort r (chainage s)
                                unbenched := decide (r.phase = .benching) }
    exact (Moves.one (.run (r' := r') (b := none) hr rfl (fun _ => by simp [r']))).trans (withPause_moves _ _)
  · exact setRun_moves hr _ rfl Iff.rfl

theorem softAbort_moves (x : OpParams) (s : State) : Moves own .settled s .settled (softAbort x s) := by
  unfold softAbort
  split
  · unfold softAbortDig
    split
    · exact .done
    next hr =>
      dsimp only
      split
      · exact (softAbortRun_moves hr).trans (completeIfStill_moves _ _ _)
      · exact softAbortRun_moves hr
  · exact completeHead_moves _ _ s

theorem stopAll_moves (s : State) : Moves own .settled s .settled (stopAll s) :=
  (emptyQueue_idle_moves _ _ s).trans ((endTie_moves _ _ _).trans (formPermit_moves _))

theorem releaseHold_moves {s : State} {r : RunCtx} (hr : s.lt = some r) (hold : r.phase = .segmentHold) :
    Moves own .settled s .settled (releaseHold r s) :=
  (setRun_moves hr { r with frozen := none, phase := .running } rfl (by simp [hold])).trans (withPause_moves _ _)

theorem resumeAll_moves (s : State) : Moves own .settled s .settled (resumeAll s) := by
  have exchanged : Moves own .settled s .settled (if exchangePending s then resumeExchange s else s) := by
    split
    next pending =>
      unfold resumeExchange
      split
      next r hr =>
        simp only [exchangePending, hr, beq_iff_eq] at pending
        exact (releaseHold_moves hr pending).trans ((exchange_moves _).trans (testBoundary_moves _))
      · exact .done
    · exact .done
  unfold resumeAll
  dsimp only
  split
  · exact exchanged.trans ((withPause_moves _ _).trans (formPermit_moves _))
  · exact exchanged.trans (formPermit_moves _)

theorem optionalOf_le {mark lo hi value : Nat} {x : Nat} (h : optionalOf mark lo hi value = some (some x)) : x ≤ hi := by
  unfold optionalOf at h
  split at h
  · cases h
  · split at h
    next inside => cases h; simp [inRange] at inside; exact inside.2
    · cases h
  · cases h

/-- An operation that ENQUEUE carries starts in the range of the part, if it says where (section 8.1). -/
theorem opParamsOf_startInRange {f : OpFields} {x : OpParams} (h : opParamsOf f = some x) : startInRange x = true := by
  unfold opParamsOf at h
  split at h
  · split at h
    next c _ _ hc =>
      split at h
      · cases h
        cases c with
        | none => rfl
        | some v => exact decide_eq_true (optionalOf_le hc)
      · cases h
    · cases h
  all_goals (repeat' split at h) <;> cases h <;> rfl

theorem operationOf_spec {tag standing : Nat} {f : OpFields} {op : Operation} (h : operationOf tag f standing = some op) :
    op.state = .waiting ∧ startInRange op.params = true := by
  unfold operationOf at h
  split at h
  next hx _ =>
    split at h
    · cases h
    · cases h; exact ⟨rfl, opParamsOf_startInRange hx⟩
  · cases h

theorem enqueueTest_spec {opTag standing : Nat} {f : OpFields} {s : State} {op : Operation}
    (h : enqueueTest opTag f standing s = .inr op) :
    operationOf opTag f standing = some op ∧ s.oq.seq ≠ .faulted ∧ s.oq.ops.length < 4
      ∧ unsealedDig op.params s = false := by
  unfold enqueueTest at h
  split at h
  · cases h
  next x hx =>
    split at h
    · cases h
    next hseq =>
      split at h
      · cases h
      next hlen =>
        split at h
        · cases h
        next hseal => cases h; exact ⟨hx, hseq, by simpa [queueCapacity] using hlen, by simpa using hseal⟩

theorem appendOperation_oq (op : Operation) (s : State) :
    (appendOperation op s).oq = { s.oq with ops := s.oq.ops ++ [op] } := by
  unfold appendOperation adjustInUse; split <;> rfl

theorem takeOperation_moves {opTag standing : Nat} {f : OpFields} {s : State} {op : Operation}
    (h : enqueueTest opTag f standing s = .inr op) : Moves own .settled s .settled (takeOperation op s) := by
  obtain ⟨hop, hseq, hlen, hseal⟩ := enqueueTest_spec h
  obtain ⟨hw, hc⟩ := operationOf_spec hop
  have append := Move.append (own := own) hw hseq hlen hseal hc
  unfold takeOperation
  dsimp only
  split
  next empty =>
    rw [if_pos empty] at append
    exact (Moves.one append).trans (startHead_moves _ _ (Nat.lt_succ_self _))
  next more =>
    rw [if_neg more] at append
    exact .one append

/-! ## The shadow model -/

theorem strikeStage_moves (s : State) : Moves own p s p (strikeStage s) := by
  unfold strikeStage
  split
  · exact .done
  next m hm =>
    dsimp only
    split
    · exact (Moves.quiet { sm := by simp [hm] }).trans (offerStrike_moves _ _)
    · exact .quiet { sm := by simp [hm] }

theorem travelStage_moves (s : State) : Moves own .settled s .settled (travelStage s) := by
  unfold travelStage
  split
  · exact stepChainage_moves _ _ s
  · exact .done

theorem modelStep_moves {m : Shadow} {s : State} (hm : s.sm = some m) : Moves own .settled s .settled (modelStep m s) := by
  refine .trans ?_ ((travelStage_moves _).trans (strikeStage_moves _))
  exact .quiet { sm := by simp [hm, boomStage] }

theorem endTie_oq (why : TieReason) (spread : Option Int) (s : State) : (endTie why spread s).oq = s.oq := by
  rw [endTie_keeps]

theorem leaveShadow_moves {s : State} (hops : s.oq.ops = []) : Moves .shadow .settled s .settled (leaveShadow s) :=
  .one (.leaveShadow rfl hops)

theorem endShadow_moves {s : State} (hops : s.oq.ops = []) : Moves .shadow .settled s .settled (endShadow s) := by
  have hops' : (dropGenerated (endTie .stopped none s)).oq.ops = [] := by
    rw [← hops, ← endTie_oq .stopped none s]; rfl
  exact (endTie_moves _ _ s).trans ((setSlot_moves _ _).trans ((leaveShadow_moves hops').trans (formPermit_moves _)))

theorem beginShadow_moves {s : State} (hops : s.oq.ops = []) (e : PlaneEntry) :
    Moves .shadow .settled s .settled (beginShadow e s) :=
  (Moves.one (.beginShadow (m := startModel e s) rfl rfl hops)).trans (formPermit_moves _)

theorem leaveShadow_te (s : State) : (leaveShadow s).te = s.te := by
  unfold leaveShadow; split <;> rfl

theorem restPort_moves (s : State) : Moves own p s p (restPort s) :=
  (Moves.one (.port { s.clp with flags := 0, reports := [] }
    { bounded := fun ⟨_, h⟩ => ⟨Nat.zero_le _, h⟩ })).trans (.quiet {})

theorem restartAll_moves (s : State) : Moves .shadow .settled s .settled (restartAll s) := by
  unfold restartAll
  extract_lets s1 s2
  have hops : (endTie .stopped none s1).oq.ops = [] := by
    rw [endTie_oq]; exact emptyQueue_ops .aborted .restart s
  have htie : s2.te.tie = none := by simp only [s2]; rw [leaveShadow_te, endTie_tie]
  exact (emptyQueue_idle_moves _ _ s).trans ((endTie_moves _ _ s1).trans ((leaveShadow_moves hops).trans
    ((Moves.one (.restPlanes htie)).trans ((restPort_moves _).trans (formPermit_moves _)))))

end Sys2Proof.Proofs
end

section
/-! Every command of the part is a chain of moves from a settled part to a settled part. -/

namespace Sys2Proof.Proofs

open Sys2Proof.Machine Sys2Proof.Safety Sys2Proof.Laws

/- The case splits of this file are elaborated in order: side by side each waits for the equations of the model's functions
in a thread of its own, and the threads' stacks come up to the memory the check allows. -/
set_option Elab.async false

variable {own : Owner}

/-- An outcome is a next state that a chain of moves reaches. -/
def Reaches (own : Owner) (s : State) (o : Host.Outcome State Fault Refusal) : Prop :=
  ∃ t, o = .next t ∧ Moves own .settled s .settled t

theorem Reaches.next {s t : State} (h : Moves own .settled s .settled t) : Reaches own s (.next t) := ⟨t, rfl, h⟩

theorem Reaches.same {s : State} : Reaches own s (.next s) := .next .done

theorem Reaches.refuse {s : State} (q : Request) (tag : Nat) (code : ResultCode) :
    Reaches own s (.next (refuse q tag code s)) := .next (refuse_moves q tag code s)

/-- A request that is carried out and then answered. -/
theorem Reaches.answer {s t : State} (h : Moves own .settled s .settled t) (q : Request) (tag : Nat) (code : ResultCode)
    (contents : Contents) : Reaches own s (.next (answer q tag code contents t)) :=
  .next (h.trans (answer_moves q tag code contents t))

/-- A part that forms its permit afresh once it has done what it does. -/
theorem Reaches.formed {s t : State} (h : Moves own .settled s .settled t) : Reaches own s (.next (formPermit t)) :=
  .next (h.trans (formPermit_moves t))

/-! ## The events of the part -/

theorem execPowerOn_reaches (a0 a1 : Bool) (w : WheelPair) (r : Readings) (s : State) :
    Reaches .power s (execPowerOn a0 a1 w r s) :=
  .next ((Moves.one (.power rfl a0 a1 w)).trans (sampleOutputs_moves r _))

theorem execMastByte_reaches (data : Byte) (parity stop : Bool) (s : State) :
    Reaches own s (execMastByte data parity stop s) := by
  unfold execMastByte
  split
  · exact .next (takeMastByte_moves _ _ s)
  · exact .same

theorem execMastGapTimerExpiry_reaches (s : State) : Reaches own s (execMastGapTimerExpiry s) := by
  unfold execMastGapTimerExpiry
  split
  · exact .next ((setMastRx_moves _ s).trans (countDamaged_moves _))
  · exact .same

theorem execStrikeTake_reaches (s : State) : Reaches own s (execStrikeTake s) := by
  unfold execStrikeTake
  split
  · split
    · exact .next ((setSlot_moves none s).trans (qualify_moves _ _))
    · exact .same
  · exact .same

theorem execGradeLoopStrike_reaches (s : State) : Reaches own s (execGradeLoopStrike s) := by
  unfold execGradeLoopStrike
  split
  · exact .formed (.trans (.quiet {}) (loopStrike_moves _ _))
  · exact .same

theorem execBenchStrike_reaches (s : State) : Reaches own s (execBenchStrike s) := by
  unfold execBenchStrike
  split
  · exact .formed (.trans (.quiet {}) (benchStep_moves _ _))
  · exact .same

theorem execTieStrike_reaches (s : State) : Reaches own s (execTieStrike s) := by
  unfold execTieStrike
  split
  · exact .formed (.trans (.quiet {}) (tieStep_moves _ _ _))
  · exact .same

theorem execWheelTransition_reaches (pair : WheelPair) (s : State) : Reaches own s (execWheelTransition pair s) := by
  unfold execWheelTransition
  split
  · exact .same
  · dsimp only
    split
    · exact .next (.quiet {})
    · exact .formed (.trans (.quiet {}) (wheelStep_moves _ _ _))

theorem execStillnessTimerExpiry_reaches (s : State) : Reaches own s (execStillnessTimerExpiry s) := by
  unfold execStillnessTimerExpiry
  split
  · exact .formed (.trans (.quiet {}) ((modifyBench_moves _ _).trans (serveRun_moves _)))
  · exact .same

theorem execBeamAgeTimerExpiry_reaches (s : State) : Reaches own s (execBeamAgeTimerExpiry s) := by
  unfold execBeamAgeTimerExpiry
  split
  next hl =>
    split
    · exact .formed (enterCoasting_moves hl)
    · exact .same
  · exact .same

theorem execSearchTimerExpiry_reaches (s : State) : Reaches own s (execSearchTimerExpiry s) := by
  unfold execSearchTimerExpiry
  split
  next hl =>
    split
    · exact .formed (enterLost_moves hl _ _)
    · exact .same
  · exact .same

theorem execLostDriveTimerExpiry_reaches (s : State) : Reaches own s (execLostDriveTimerExpiry s) := by
  unfold execLostDriveTimerExpiry
  split
  next hl =>
    split
    · exact .next (.one (.drive hl fun _ => ⟨Nat.zero_le _, rfl⟩))
    · exact .same
  · exact .same

theorem execTieTimerExpiry_reaches (s : State) : Reaches own s (execTieTimerExpiry s) := by
  unfold execTieTimerExpiry
  split
  · split
    · exact .next (endTie_moves _ _ s)
    · exact .same
  · exact .same

theorem execDwellTimerExpiry_reaches (s : State) : Reaches own s (execDwellTimerExpiry s) := by
  unfold execDwellTimerExpiry
  split
  · exact .formed (endCycle_moves _ s)
  · exact .same

theorem execShadowPeriodTimerExpiry_reaches (s : State) : Reaches own s (execShadowPeriodTimerExpiry s) := by
  unfold execShadowPeriodTimerExpiry
  split
  next hm => exact .formed (modelStep_moves hm)
  · exact .same

/-! ## The cab line -/

theorem setCabRx_moves {p : Phase} (rx : LineRx) (s : State) : Moves own p s p (setCabRx rx s) := .one (.port _ {})

theorem dropCabFrame_moves {p : Phase} (s : State) : Moves own p s p (dropCabFrame s) :=
  (setCabRx_moves _ s).trans (countCabDropped_moves _)

theorem putInHand_moves {p : Phase} (r : Received) (s : State) : Moves own p s p (putInHand r s) := .one (.port _ {})

theorem goodCabFrame_moves {p : Phase} (address kind tag : Nat) (body : List Byte) (s : State) :
    Moves own p s p (goodCabFrame address kind tag body s) := by
  have held : Moves own p s p (holdReceiver s) := .one (.port _ {})
  unfold goodCabFrame
  split
  · exact .done
  · split
    · unfold addressedRequest
      split
      · exact held.trans (putInHand_moves _ _)
      · split
        · exact held.trans (putInHand_moves _ _)
        · exact sendReply_moves _ _ _ _ s
    · split
      · unfold broadcastFrame
        split
        · exact putInHand_moves _ s
        · exact .done
      · exact .done

theorem collectCabByte_moves {p : Phase} (data : Byte) (bytes : List Byte) (s : State) :
    Moves own p s p (collectCabByte data bytes s) := by
  unfold collectCabByte
  dsimp only
  split
  · exact setCabRx_moves _ s
  · split
    · exact dropCabFrame_moves s
    · split
      · exact setCabRx_moves _ s
      · unfold checkCabFrame
        split
        · exact (setCabRx_moves _ s).trans (goodCabFrame_moves _ _ _ _ _)
        · exact dropCabFrame_moves s

theorem takeCabByte_moves {p : Phase} (data : Byte) (stop : Bool) (s : State) :
    Moves own p s p (takeCabByte data stop s) := by
  unfold takeCabByte
  split
  · split
    · exact setCabRx_moves _ s
    · exact .done
  · split
    · exact collectCabByte_moves _ _ s
    · exact dropCabFrame_moves s

theorem execCabByte_reaches (data : Byte) (stop : Bool) (s : State) : Reaches own s (execCabByte data stop s) := by
  unfold execCabByte
  split
  · exact .same
  · exact .next (takeCabByte_moves _ _ s)

theorem execCabGapTimerExpiry_reaches (s : State) : Reaches own s (execCabGapTimerExpiry s) := by
  unfold execCabGapTimerExpiry
  split
  · exact .next (dropCabFrame_moves s)
  · exact .same

theorem execReplyComplete_reaches (s : State) : Reaches own s (execReplyComplete s) := by
  unfold execReplyComplete
  split
  · exact .next (.one (.port _ {}))
  · exact .same

theorem execUnknownKindRequest_reaches (tag kind : Nat) (s : State) :
    Reaches own s (execUnknownKindRequest tag kind s) := .next (.one (.port _ {}))

theorem execClearFlags_reaches (tag : Nat) (mask : Mask) (s : State) : Reaches own s (execClearFlags tag mask s) :=
  .answer ((Moves.one (.port { s.clp with flags := s.clp.flags &&& ~~~mask } {})).trans (.quiet {})) _ _ _ _

theorem execPoll_reaches (tag : Nat) (s : State) : Reaches own s (execPoll tag s) := by
  unfold execPoll
  split
  · exact .answer .done _ _ _ _
  next r rest h =>
    have fewer : PortLaw s → PortLaw { s with clp := { s.clp with reports := rest } } := by
      rintro ⟨hlen, counters⟩
      rw [h] at hlen
      exact ⟨Nat.le_of_succ_le hlen, counters⟩
    exact .answer (.one (.port _ { bounded := fewer })) _ _ _ _

theorem execReadCounts_reaches (tag : Nat) (s : State) : Reaches own s (execReadCounts tag s) := by
  refine .answer (withCounters_moves fun ⟨hlen, _⟩ => ⟨hlen, ?_⟩) _ _ _ _
  simp [Counters.zero]

theorem execGetConstant_reaches (tag id : Nat) (s : State) : Reaches own s (execGetConstant tag id s) := by
  unfold execGetConstant
  split
  · exact .answer .done _ _ _ _
  · exact .refuse _ _ _

theorem execSetConstant_reaches (tag id : Nat) (value : Int) (s : State) :
    Reaches .constants s (execSetConstant tag id value s) := by
  unfold execSetConstant
  split
  · exact .refuse _ _ _
  · split
    · exact .refuse _ _ _
    next free => exact .answer (.one (.setConst rfl (by simpa using free))) _ _ _ _

theorem execRestart_reaches (tag : Nat) (s : State) : Reaches .shadow s (execRestart tag s) :=
  .answer (restartAll_moves s) _ _ _ _

/-! ## Sheets, planes and the mast line's setting -/

theorem execOpenSheet_reaches (tag n : Nat) (f : HeaderFields) (s : State) :
    Reaches .sheets s (execOpenSheet tag n f s) := by
  unfold execOpenSheet
  split
  · split
    · exact .refuse _ _ _
    next unused =>
      split
      · exact .refuse _ _ _
      · exact .answer (.one (.sheet rfl (.inl (Nat.eq_zero_of_not_pos unused)))) _ _ _ _
  · exact .refuse _ _ _

theorem execAppendSegment_reaches (tag n length : Nat) (grade : Int) (marker stop : Nat) (s : State) :
    Reaches .sheets s (execAppendSegment tag n length grade marker stop s) := by
  unfold execAppendSegment
  split
  · exact .refuse _ _ _
  · split
    next hbody =>
      split
      · exact .refuse _ _ _
      · exact .answer (.one (.sheet rfl (.inr (by rw [hbody]; rfl)))) _ _ _ _
    · exact .refuse _ _ _

theorem execSealSheet_reaches (tag n : Nat) (s : State) : Reaches .sheets s (execSealSheet tag n s) := by
  unfold execSealSheet
  split
  · exact .refuse _ _ _
  · split
    · exact .refuse _ _ _
    next hbody =>
      split
      · exact .refuse _ _ _
      · exact .answer (.one (.sheet rfl (.inr (by rw [hbody]; rfl)))) _ _ _ _
    · exact .answer .done _ _ _ _

theorem execEraseSheet_reaches (tag n : Nat) (s : State) : Reaches .sheets s (execEraseSheet tag n s) := by
  unfold execEraseSheet
  split
  · exact .refuse _ _ _
  · split
    · exact .refuse _ _ _
    next unused => exact .answer (.one (.sheet rfl (.inl (Nat.eq_zero_of_not_pos unused)))) _ _ _ _

theorem execReadSheet_reaches (tag n index : Nat) (s : State) : Reaches own s (execReadSheet tag n index s) := by
  unfold execReadSheet
  split
  · exact .refuse _ _ _
  · split
    · exact .answer .done _ _ _ _
    · split
      · exact .answer .done _ _ _ _
      · exact .refuse _ _ _

/-- What it takes to pass the tests of DEFINE_PLANE (R19). -/
theorem definePlaneTest_spec {entry lo hi : Nat} {slope : Int} {s : State} {i : Fin 8}
    (h : definePlaneTest entry lo hi slope s = .inr i) :
    entryOf entry = some i ∧ inWork (entryAt s i).role = false ∧ overlapsOther i lo hi s = false := by
  unfold definePlaneTest at h
  split at h
  · cases h
  next j hj =>
    split at h
    · cases h
    · split at h
      · cases h
      next idle =>
        split at h
        · cases h
        next apart => cases h; exact ⟨hj, by simpa using idle, by simpa using apart⟩

theorem execDefinePlane_reaches (tag entry lo hi : Nat) (slope : Int) (s : State) :
    Reaches .windows s (execDefinePlane tag entry lo hi slope s) := by
  unfold execDefinePlane
  split
  · exact .refuse _ _ _
  next i h =>
    obtain ⟨_, idle, apart⟩ := definePlaneTest_spec h
    exact .answer (.one (.definePlane rfl idle apart rfl)) _ _ _ _

theorem execClearPlane_reaches (tag entry : Nat) (s : State) : Reaches .windows s (execClearPlane tag entry s) := by
  unfold execClearPlane
  split
  · exact .refuse _ _ _
  · split
    · exact .refuse _ _ _
    next idle => exact .answer (.one (.clearPlane rfl (by simpa using idle))) _ _ _ _

theorem execReadPlane_reaches (tag entry : Nat) (s : State) : Reaches own s (execReadPlane tag entry s) := by
  unfold execReadPlane
  split
  · exact .refuse _ _ _
  · exact .answer (modifyEntry_moves (f := fun e => { e with matched := false }) (fun _ => rfl) s) _ _ _ _

theorem execMastLine_reaches (tag setting : Nat) (s : State) : Reaches .mastLine s (execMastLine tag setting s) := by
  unfold execMastLine
  split
  · exact .answer (setMastLine_moves _ s) _ _ _ _
  · exact .refuse _ _ _

/-! ## The chainage, the queue, ties, faults and the shadow run -/

theorem execSetChainage_reaches (tag value : Nat) (s : State) : Reaches own s (execSetChainage tag value s) := by
  unfold execSetChainage
  split
  · exact .refuse _ _ _
  next held =>
    have hdig : holdsDig s = false := by
      simp only [Bool.or_eq_true, not_or, Bool.not_eq_true] at held; exact held.1
    split
    next inside => exact .answer (.one (.setting (.inl ⟨rfl, hdig⟩) fun _ => inside)) _ _ _ _
    · exact .answer (.one (.setting (.inl ⟨rfl, hdig⟩) fun _ => Nat.le_refl _)) _ _ _ _

theorem execEnqueue_reaches (tag opTag : Nat) (f : OpFields) (standing : Nat) (s : State) :
    Reaches own s (execEnqueue tag opTag f standing s) := by
  unfold execEnqueue
  split
  · exact .refuse _ _ _
  next h => exact .answer ((takeOperation_moves h).trans (formPermit_moves _)) _ _ _ _

theorem execSoftAbort_reaches (tag : Nat) (s : State) : Reaches own s (execSoftAbort tag s) := by
  unfold execSoftAbort
  split
  · exact .refuse _ _ _
  · exact .answer ((softAbort_moves _ s).trans (formPermit_moves _)) _ _ _ _

theorem execStop_reaches (broadcast : Bool) (tag : Nat) (s : State) : Reaches own s (execStop broadcast tag s) := by
  unfold execStop
  split
  · exact .next ((stopAll_moves s).trans (takeInHand_moves _ _ _ _))
  · exact .answer (stopAll_moves s) _ _ _ _

theorem execResume_reaches (tag : Nat) (s : State) : Reaches own s (execResume tag s) := by
  unfold execResume
  split
  · exact .answer (resumeAll_moves s) _ _ _ _
  · exact .refuse _ _ _

/-- What it takes to pass the tests of TIE_START (R124). -/
theorem tieStartTest_spec {entry n mode : Nat} {s : State} {e : Fin 8} {m : TieMode}
    (h : tieStartTest entry n mode s = .inr (e, m)) :
    s.te.tie = none ∧ mayBeTied (entryAt s e).role = true ∧ 2 ≤ n ∧ n ≤ 16 := by
  unfold tieStartTest at h
  split at h
  · split at h
    · cases h
    next inside =>
      split at h
      · cases h
      next idle =>
        split at h
        · cases h
        next fit =>
          cases h
          simp only [Bool.or_eq_true, Bool.not_eq_true', not_or, Bool.not_eq_false, Bool.not_eq_true] at fit
          simp only [inRange, Bool.not_eq_true', Bool.not_eq_false, Bool.and_eq_true, decide_eq_true_eq] at inside
          exact ⟨by simpa [tieInFlight] using idle, fit.1.2, inside⟩
  · cases h

theorem execTieStart_reaches (tag entry n mode : Nat) (s : State) : Reaches own s (execTieStart tag entry n mode s) := by
  unfold execTieStart
  split
  · exact .refuse _ _ _
  next e m h =>
    obtain ⟨hnone, hrole, h2, h16⟩ := tieStartTest_spec h
    exact .answer (.one (.startTie (r := newTie e n m s) hnone hrole rfl
      (by simp [PairsFit, newTie, h2, h16, Nat.lt_of_lt_of_le Nat.zero_lt_two h2]))) _ _ _ _

theorem execTieCommit_reaches (tag : Nat) (s : State) : Reaches own s (execTieCommit tag s) := by
  unfold execTieCommit
  split
  · exact .refuse _ _ _
  next hr =>
    split
    · exact .refuse _ _ _
    · exact .answer ((transfer_moves hr rfl s.te.tie _).trans (formPermit_moves _)) _ _ _ _

theorem execTieCancel_reaches (tag : Nat) (s : State) : Reaches own s (execTieCancel tag s) := by
  unfold execTieCancel
  split
  · exact .answer (endTie_moves _ _ s) _ _ _ _
  · exact .refuse _ _ _

theorem execClearFault_reaches (tag : Nat) (s : State) : Reaches .clearFault s (execClearFault tag s) := by
  unfold execClearFault
  split
  · exact .refuse _ _ _
  next faulted =>
    split
    · exact .answer ((Moves.one (.clearFault rfl (by simpa using faulted))).trans (formPermit_moves _)) _ _ _ _
    · exact .refuse _ _ _

theorem shadowOnTest_spec {s : State} {i : Fin 8} (h : shadowOnTest s = .inr i) :
    s.sm = none ∧ s.os.faulted = false ∧ s.oq.ops = [] ∧ s.te.tie = none ∧ activeEntry s = some i := by
  unfold shadowOnTest at h
  split at h
  · cases h
  next hsm =>
    split at h
    · cases h
    next hf =>
      split at h
      · cases h
      next hops =>
        split at h
        · cases h
        next htie =>
          split at h
          next hact =>
            cases h
            exact ⟨by simpa using hsm, by simpa using hf, by simpa using hops, by simpa [tieInFlight] using htie, hact⟩
          · cases h

theorem execShadowOn_reaches (tag : Nat) (s : State) : Reaches .shadow s (execShadowOn tag s) := by
  unfold execShadowOn
  split
  · exact .refuse _ _ _
  next h =>
    obtain ⟨_, _, hops, _, _⟩ := shadowOnTest_spec h
    exact .answer (beginShadow_moves hops _) _ _ _ _

theorem execShadowOff_reaches (tag : Nat) (s : State) : Reaches .shadow s (execShadowOff tag s) := by
  unfold execShadowOff
  split
  · exact .refuse _ _ _
  · split
    · exact .refuse _ _ _
    next hops => exact .answer (endShadow_moves (by simpa using hops)) _ _ _ _

theorem execShadowGap_reaches (tag distance : Nat) (s : State) : Reaches own s (execShadowGap tag distance s) := by
  unfold execShadowGap
  split
  · exact .refuse _ _ _
  · split
    · exact .refuse _ _ _
    next hm => exact .answer (.quiet { sm := by simp [hm] }) _ _ _ _

/-- Every command answers a next state, which a chain of moves of its owner reaches. -/
theorem exec_reaches (i : Instr) (s : State) : Reaches (ownerOf i) s (exec i s) := by
  cases i with
  | powerOn a0 a1 w r => exact execPowerOn_reaches a0 a1 w r s
  | mastByte data parity stop => exact execMastByte_reaches data parity stop s
  | mastGapTimerExpiry => exact execMastGapTimerExpiry_reaches s
  | strikeTake => exact execStrikeTake_reaches s
  | gradeLoopStrike => exact execGradeLoopStrike_reaches s
  | benchStrike => exact execBenchStrike_reaches s
  | tieStrike => exact execTieStrike_reaches s
  | wheelTransition pair => exact execWheelTransition_reaches pair s
  | stillnessTimerExpiry => exact execStillnessTimerExpiry_reaches s
  | beamAgeTimerExpiry => exact execBeamAgeTimerExpiry_reaches s
  | searchTimerExpiry => exact execSearchTimerExpiry_reaches s
  | lostDriveTimerExpiry => exact execLostDriveTimerExpiry_reaches s
  | tieTimerExpiry => exact execTieTimerExpiry_reaches s
  | dwellTimerExpiry => exact execDwellTimerExpiry_reaches s
  | sampleTick r => exact .next (sampleOutputs_moves r s)
  | shadowPeriodTimerExpiry => exact execShadowPeriodTimerExpiry_reaches s
  | cabByte data stop => exact execCabByte_reaches data stop s
  | cabGapTimerExpiry => exact execCabGapTimerExpiry_reaches s
  | replyComplete => exact execReplyComplete_reaches s
  | unknownKindRequest tag kind => exact execUnknownKindRequest_reaches tag kind s
  | identify tag => exact .answer .done _ _ _ _
  | status tag => exact .answer .done _ _ _ _
  | poll tag => exact execPoll_reaches tag s
  | readFlags tag => exact .answer .done _ _ _ _
  | clearFlags tag mask => exact execClearFlags_reaches tag mask s
  | setEnables tag mask => exact .answer (.one (.enables rfl)) _ _ _ _
  | readCounts tag => exact execReadCounts_reaches tag s
  | setConstant tag id value => exact execSetConstant_reaches tag id value s
  | getConstant tag id => exact execGetConstant_reaches tag id s
  | restart tag => exact execRestart_reaches tag s
  | openSheet tag n f => exact execOpenSheet_reaches tag n f s
  | appendSegment tag n length grade marker stop => exact execAppendSegment_reaches tag n length grade marker stop s
  | sealSheet tag n => exact execSealSheet_reaches tag n s
  | eraseSheet tag n => exact execEraseSheet_reaches tag n s
  | readSheet tag n index => exact execReadSheet_reaches tag n index s
  | definePlane tag entry lo hi slope => exact execDefinePlane_reaches tag entry lo hi slope s
  | clearPlane tag entry => exact execClearPlane_reaches tag entry s
  | readPlane tag entry => exact execReadPlane_reaches tag entry s
  | mastLine tag setting => exact execMastLine_reaches tag setting s
  | setChainage tag value => exact execSetChainage_reaches tag value s
  | enqueue tag opTag f standing => exact execEnqueue_reaches tag opTag f standing s
  | readQueue tag => exact .answer .done _ _ _ _
  | softAbort tag => exact execSoftAbort_reaches tag s
  | stop broadcast tag => exact execStop_reaches broadcast tag s
  | resume tag => exact execResume_reaches tag s
  | tieStart tag entry n mode => exact execTieStart_reaches tag entry n mode s
  | tieCommit tag => exact execTieCommit_reaches tag s
  | tieCancel tag => exact execTieCancel_reaches tag s
  | readTie tag => exact .answer .done _ _ _ _
  | clearFault tag => exact execClearFault_reaches tag s
  | shadowOn tag => exact execShadowOn_reaches tag s
  | shadowOff tag => exact execShadowOff_reaches tag s
  | shadowGap tag distance => exact execShadowGap_reaches tag distance s

/-- A law that every chain of moves keeps, and that the passing of a millisecond keeps, every step keeps. -/
theorem step_keeps {law : State → Prop} (moves : ∀ {own s t}, Moves own .settled s .settled t → law s → law t)
    (tick : ∀ s, law s → law (tickClock s)) (pending : ∀ s l, law s → law { s with pending := l }) {s t : State}
    (h : law s) (hstep : step s = .next t) : law t := by
  have commanded : ∀ i s', law s' → exec i s' = .next t → law t := fun i s' h' hexec => by
    obtain ⟨t', ht', ms⟩ := exec_reaches i s'
    rw [ht'] at hexec
    cases hexec
    exact moves ms h'
  unfold step at hstep
  split at hstep
  · exact commanded _ _ (pending _ _ h) hstep
  · split at hstep
    · exact commanded _ _ h hstep
    · cases hstep
      exact tick s h

end Sys2Proof.Proofs
end

section
/-! What the owners alone change (R1, R11, R19, R37 to R42, R168, R173, R184, R188, R191), and the completion of every
command: move by move. -/

namespace Sys2Proof.Proofs

open Sys2Proof.Machine Sys2Proof.Safety Sys2Proof.Laws

variable {own : Owner} {p q : Phase} {s t u : State}

/-! ## What the moves that branch leave alone -/

theorem adjustInUse_keeps (f : Nat → Nat) (x : OpParams) (s : State) :
    adjustInUse f x s = { s with ss := (adjustInUse f x s).ss } := by
  unfold adjustInUse; split <;> rfl

theorem appendOperation_keeps (op : Operation) (s : State) :
    appendOperation op s = { s with
      oq := { s.oq with ops := s.oq.ops ++ [op] }, ss := (appendOperation op s).ss } := by
  unfold appendOperation; rw [adjustInUse_keeps]

theorem appendOperation_body (op : Operation) (s : State) (n : Fin 6) :
    (sheetAt (appendOperation op s) n).body = (sheetAt s n).body := adjustInUse_body _ _ _ n

theorem rolesPassed_keeps (e : Fin 8) (x : Tie) (s : State) :
    rolesPassed e x s = { s with pat := (rolesPassed e x s).pat } := by
  unfold rolesPassed; dsimp only; split <;> rfl

theorem leaveShadow_keeps (s : State) :
    leaveShadow s = { s with cc := (leaveShadow s).cc, sm := none } := by
  unfold leaveShadow
  split
  next h => rw [← h]
  · rfl

/-- The table of sheets after an operation has left: its sheet's count is one less (R45). -/
theorem leaveQueue_ss {op : Operation} {rest : List Operation} (h : s.oq.ops = op :: rest) (out : OpOutcome)
    (why : OpReason) : (leaveQueue out why s).ss = (adjustInUse (· - 1) op.params s).ss := by
  unfold leaveQueue
  rw [h]
  dsimp only
  unfold adjustInUse
  cases op.params <;> dsimp only <;> split <;> rfl

theorem leaveQueue_body {op : Operation} {rest : List Operation} (h : s.oq.ops = op :: rest) (out : OpOutcome)
    (why : OpReason) (n : Fin 6) : (sheetAt (leaveQueue out why s) n).body = (sheetAt s n).body := by
  have hss := leaveQueue_ss h out why
  have := adjustInUse_body (· - 1) op.params s n
  unfold sheetAt at *
  rw [hss, this]

theorem planeCore_demoted (e : PlaneEntry) :
    (planeCore (if e.role = .active then { e with role := .standby, tie := none } else e)).2 = (planeCore e).2 := by
  split <;> rfl

/-- Windows and slopes of the planes. -/
theorem entryAt_modifyEntry_core {i : Fin 8} {f : PlaneEntry → PlaneEntry} (hf : ∀ e, (planeCore (f e)).2 = (planeCore e).2)
    (s : State) (j : Fin 8) : (planeCore (entryAt (modifyEntry i f s) j)).2 = (planeCore (entryAt s j)).2 := by
  by_cases h : j = i
  · subst h; rw [entryAt_modifyEntry_same, hf]
  · rw [entryAt_modifyEntry_of_ne h]

theorem entryAt_mapEntries {f : PlaneEntry → PlaneEntry} (s : State) (j : Fin 8) :
    entryAt { s with pat := mapEntries f s.pat } j = f (entryAt s j) := mapEntries_get f s.pat j

theorem makeActive_core (e : Fin 8) (s : State) (j : Fin 8) :
    (planeCore (entryAt (makeActive e s) j)).2 = (planeCore (entryAt s j)).2 := by
  unfold makeActive
  split
  · rfl
  · refine (entryAt_modifyEntry_core (fun _ => ?_) _ j).trans ?_
    · rfl
    · rw [entryAt_mapEntries]; exact planeCore_demoted _

theorem rolesPassed_core (e : Fin 8) (x : Tie) (s : State) (j : Fin 8) :
    (planeCore (entryAt (rolesPassed e x s) j)).2 = (planeCore (entryAt s j)).2 := by
  have first := entryAt_modifyEntry_core (i := e) (f := fun p => { p with role := .active, tie := some x }) (fun _ => rfl) s j
  unfold rolesPassed
  dsimp only
  split
  · exact (entryAt_modifyEntry_core (fun _ => by rfl) _ j).trans first
  · exact first

theorem tieEnded_core (r : TieRecord) (o : Option TieOutcome) (s : State) (j : Fin 8) :
    (planeCore (entryAt (tieEnded r o s) j)).2 = (planeCore (entryAt s j)).2 :=
  entryAt_modifyEntry_core (i := r.candidate) (f := fun p => { p with role := .standby, tie := none }) (fun _ => rfl) s j

theorem candidateSet_core (e : Fin 8) (s : State) (j : Fin 8) :
    (planeCore (entryAt (modifyEntry e (fun p => { p with role := .candidate, tie := none }) s) j)).2
      = (planeCore (entryAt s j)).2 :=
  entryAt_modifyEntry_core (i := e) (f := fun p => { p with role := .candidate, tie := none }) (fun _ => rfl) s j

theorem entryAt_restPlanes (s : State) (j : Fin 8) : entryAt (restPlanes s) j = restEntry (entryAt s j) :=
  mapEntries_get restEntry s.pat j

/-! ## The owners -/

/-- What a chain of moves of a command with this owner leaves alone. -/
structure Kept (own : Owner) (s t : State) : Prop where
  pending : t.pending = s.pending := by rfl
  clock : own ≠ .power → t.clock = s.clock := by intros; rfl
  address : own ≠ .power → t.clp.address = s.clp.address := by intros; rfl
  consts : own ≠ .power → own ≠ .constants → t.clp.consts = s.clp.consts := by intros; rfl
  enables : own ≠ .power → own ≠ .enables → t.clp.enables = s.clp.enables := by intros; rfl
  bodies : own ≠ .power → own ≠ .sheets → ∀ n, (sheetAt t n).body = (sheetAt s n).body := by intros; rfl
  planes : own ≠ .power → own ≠ .windows → ∀ j, (planeCore (entryAt t j)).2 = (planeCore (entryAt s j)).2 := by
    intros; rfl
  lineOn : own ≠ .power → own ≠ .mastLine → t.mlr.lineOn = s.mlr.lineOn := by intros; rfl
  faulted : own ≠ .power → own ≠ .clearFault → s.os.faulted = true → t.os.faulted = true := by exact fun _ _ h => h
  shadow : own ≠ .power → own ≠ .shadow → t.sm.isSome = s.sm.isSome := by intros; rfl

namespace Kept

theorem trans (a : Kept own s t) (b : Kept own t u) : Kept own s u where
  pending := b.pending.trans a.pending
  clock h := (b.clock h).trans (a.clock h)
  address h := (b.address h).trans (a.address h)
  consts h h' := (b.consts h h').trans (a.consts h h')
  enables h h' := (b.enables h h').trans (a.enables h h')
  bodies h h' n := (b.bodies h h' n).trans (a.bodies h h' n)
  planes h h' j := (b.planes h h' j).trans (a.planes h h' j)
  lineOn h h' := (b.lineOn h h').trans (a.lineOn h h')
  faulted h h' := b.faulted h h' ∘ a.faulted h h'
  shadow h h' := (b.shadow h h').trans (a.shadow h h')

/-- A command of this owner may change what is its own. -/
theorem of_owner {x : Owner} (ho : own = x) (h : Kept x s t) : Kept own s t := by subst ho; exact h

end Kept

theorem kept_quiet (h : Quiet s t) : Kept own s t where
  pending := h.pending
  clock _ := h.clock
  address _ := by rw [h.clp]
  consts _ _ := by rw [h.clp]
  enables _ _ := by rw [h.clp]
  bodies _ _ n := by unfold sheetAt; rw [h.ss]
  planes _ _ j := by rw [h.planes]
  lineOn _ _ := h.lineOn
  faulted _ _ hf := by rw [h.faulted, hf]
  shadow _ _ := by
    have := congrArg Option.isSome h.sm
    simpa using this

theorem kept_handOn (v : Int) (s : State) : Kept own s (handOn v s) where
  faulted _ _ hf := by rw [(handOn_os_keeps v s).2.2.1, hf]
  shadow _ _ := by rw [handOn_sm, Option.isSome_map]

theorem kept_leaveQueue {op : Operation} {rest : List Operation} (h : s.oq.ops = op :: rest) (out : OpOutcome)
    (why : OpReason) : Kept own s (leaveQueue out why s) := by
  obtain ⟨_, _, _, _, _, hos, hsm, hpat, hmlr, _, hclock, hpending, hclp⟩ := leaveQueue_cons h out why
  exact {
    pending := hpending
    clock := fun _ => hclock
    address := fun _ => by rw [hclp, fireIn_address]
    consts := fun _ _ => by rw [hclp, fireIn_consts]
    enables := fun _ _ => by rw [hclp, fireIn_enables]
    bodies := fun _ _ n => leaveQueue_body h out why n
    planes := fun _ _ j => by unfold entryAt; rw [hpat]
    lineOn := fun _ _ => by rw [hmlr]
    faulted := fun _ _ hf => by rw [hos, (handOn_os_keeps 0 s).2.2.1, hf]
    shadow := fun _ _ => by rw [hsm, Option.isSome_map] }

theorem kept_of_move (m : Move own p s q t) : Kept own s t := by
  cases m with
  | quiet h => exact kept_quiet h
  | port c h => exact { address := fun _ => h.address, consts := fun _ _ => h.consts, enables := fun _ _ => h.enables }
  | drive => exact Kept.trans {} (kept_handOn _ _)
  | cut => exact kept_handOn _ _
  | driven => exact kept_handOn _ _
  | startLift => exact kept_handOn _ _
  | endTie => exact { planes := fun _ _ j => tieEnded_core _ _ s j }
  | startTie => exact { planes := fun _ _ j => candidateSet_core _ s j }
  | transfer =>
    rw [rolesPassed_keeps]
    exact { planes := fun _ _ j => rolesPassed_core _ _ s j }
  | makeActive =>
    rw [makeActive_keeps]
    exact { planes := fun _ _ j => makeActive_core _ s j }
  | restPlanes => exact { planes := fun _ _ j => by rw [entryAt_restPlanes]; rfl }
  | setting => exact { shadow := fun _ _ => Option.isSome_map }
  | append =>
    rw [appendOperation_keeps]
    exact { bodies := fun _ _ n => appendOperation_body _ s n }
  | leave out why h => exact kept_leaveQueue h out why
  | mark h => rw [markStarted_cons h]; exact {}
  | fault => exact { faulted := fun _ _ _ => rfl }
  | clearFault ho => exact .of_owner ho { faulted := fun _ h => absurd rfl h }
  | power ho => exact .of_owner ho {
      clock := fun h => absurd rfl h, address := fun h => absurd rfl h, consts := fun h => absurd rfl h
      enables := fun h => absurd rfl h, bodies := fun h => absurd rfl h, planes := fun h => absurd rfl h
      lineOn := fun h => absurd rfl h, faulted := fun h => absurd rfl h, shadow := fun h => absurd rfl h }
  | setConst ho => exact .of_owner ho { consts := fun _ h => absurd rfl h }
  | enables ho => exact .of_owner ho { enables := fun _ h => absurd rfl h }
  | sheet ho => exact .of_owner ho { bodies := fun _ h => absurd rfl h }
  | definePlane ho => exact .of_owner ho { planes := fun _ h => absurd rfl h }
  | clearPlane ho => exact .of_owner ho { planes := fun _ h => absurd rfl h }
  | mastLine ho => exact .of_owner ho { lineOn := fun _ h => absurd rfl h }
  | beginShadow ho => exact .of_owner ho { shadow := fun _ h => absurd rfl h }
  | leaveShadow ho =>
    rw [leaveShadow_keeps]
    exact .of_owner ho { shadow := fun _ h => absurd rfl h }
  | _ => exact {}

theorem kept_of_moves (ms : Moves own p s q t) : Kept own s t := by
  induction ms with
  | done => exact {}
  | cons m _ ih => exact (kept_of_move m).trans ih

/-- Settles O3: a chain of moves answers every command, and no move touches the commands that wait. -/
theorem everyCommandCompletes : Obligations.EveryCommandCompletes := by
  intro i s
  obtain ⟨t, ht, ms⟩ := exec_reaches i s
  exact ⟨t, ht, (kept_of_moves ms).pending⟩

/-- Settles O50: the owner of each command, and what the moves of that owner leave alone. -/
theorem onlyOwnersChange : Obligations.OnlyOwnersChange := by
  intro i s t hexec hpower
  obtain ⟨t', ht', ms⟩ := exec_reaches i s
  rw [ht'] at hexec
  cases hexec
  have kept := kept_of_moves ms
  have notPower : ownerOf i ≠ .power := by
    cases i with
    | powerOn a b w r => exact absurd rfl (hpower a b w r)
    | _ => simp [ownerOf]
  refine ⟨kept.address notPower, kept.clock notPower, fun h => kept.consts notPower ?_,
    fun h => kept.enables notPower ?_, fun h1 h2 h3 h4 => kept.bodies notPower ?_, fun h1 h2 => ?_,
    fun h => kept.lineOn notPower ?_, fun h => kept.faulted notPower ?_, fun h1 h2 h3 => kept.shadow notPower ?_⟩
  · cases i with
    | setConstant tag id v => exact absurd rfl (h tag id v)
    | _ => simp [ownerOf]
  · cases i with
    | setEnables tag m => exact absurd rfl (h tag m)
    | _ => simp [ownerOf]
  · cases i with
    | openSheet tag n f => exact absurd rfl (h1 tag n f)
    | appendSegment tag n a b c d => exact absurd rfl (h2 tag n a b c d)
    | sealSheet tag n => exact absurd rfl (h3 tag n)
    | eraseSheet tag n => exact absurd rfl (h4 tag n)
    | _ => simp [ownerOf]
  · have notWindows : ownerOf i ≠ .windows := by
      cases i with
      | definePlane tag e a b p => exact absurd rfl (h1 tag e a b p)
      | clearPlane tag e => exact absurd rfl (h2 tag e)
      | _ => simp [ownerOf]
    intro j
    simpa [planeCore] using kept.planes notPower notWindows j
  · cases i with
    | mastLine tag n => exact absurd rfl (h tag n)
    | _ => simp [ownerOf]
  · cases i with
    | clearFault tag => exact absurd rfl (h tag)
    | _ => simp [ownerOf]
  · cases i with
    | shadowOn tag => exact absurd rfl (h1 tag)
    | shadowOff tag => exact absurd rfl (h2 tag)
    | restart tag => exact absurd rfl (h3 tag)
    | _ => simp [ownerOf]

end Sys2Proof.Proofs
end

section
/-! The laws that hold between any two moves: the constants (R191), the accumulator (R26), the source (R32), the bounded
lists and counters (R83, R118, R126, R189, R190). -/

namespace Sys2Proof.Proofs

open Sys2Proof.Machine Sys2Proof.Safety Sys2Proof.Laws

variable {own : Owner} {p q : Phase} {s t : State}

/-- A law that each move keeps, between whichever phases, a chain of moves keeps. -/
theorem law_of_moves {law : Phase → State → Prop}
    (move : ∀ {own p q s t}, Move own p s q t → law p s → law q t) (ms : Moves own p s q t) (h : law p s) : law q t := by
  induction ms with
  | done => exact h
  | cons m _ ih => exact ih (move m h)

/-- A law that each move keeps, every step keeps. -/
theorem step_keeps_of_move {law : State → Prop} (move : ∀ {own p q s t}, Move own p s q t → law s → law t)
    (tick : ∀ s, law s → law (tickClock s)) (pending : ∀ s l, law s → law { s with pending := l })
    (h : law s) (hstep : step s = .next t) : law t :=
  step_keeps (fun ms => law_of_moves (law := fun _ => law) move ms) tick pending h hstep

/-! ## The constants -/

theorem getConst_putConst (k : Constants) (v : Nat) (c d : ConstId) :
    getConst (putConst k v c) d = if d = c then v else getConst k d := by
  cases c <;> cases d <;> rfl

/-- Every constant lies in its range. -/
def inRanges (k : Constants) : Prop := ∀ c, (constRow c).lo ≤ getConst k c ∧ getConst k c ≤ (constRow c).hi

theorem constantsLaw_iff (s : State) :
    ConstantsLaw s ↔ inRanges s.clp.consts ∧ s.clp.consts.driveMin ≤ s.clp.consts.driveMax
      ∧ s.clp.consts.strokeBottom + 100 ≤ s.clp.consts.strokeTop := by
  refine and_congr_left fun _ => ⟨fun h c => h c ?_, fun h c _ => h c⟩
  cases c <;> decide

theorem constRow_ordered (c : ConstId) : (constRow c).lo ≤ (constRow c).hi := by cases c <;> decide

theorem clampInt_toNat_range {lo hi : Nat} (h : lo ≤ hi) (x : Int) :
    lo ≤ (clampInt lo hi x).toNat ∧ (clampInt lo hi x).toNat ≤ hi := by
  unfold clampInt; omega

/-- The value held for a constant lies in its range, and in its order with the partner's (R191). -/
theorem clampToPartner_range {k : Constants} {c : ConstId} {v : Nat} (hk : inRanges k)
    (hv : (constRow c).lo ≤ v ∧ v ≤ (constRow c).hi) :
    (constRow c).lo ≤ clampToPartner k c v ∧ clampToPartner k c v ≤ (constRow c).hi := by
  have top := hk .strokeTop
  have bottom := hk .strokeBottom
  have least := hk .driveMin
  have greatest := hk .driveMax
  cases c with
  | driveMin => simp only [clampToPartner, constRow, getConst] at *; omega
  | driveMax => simp only [clampToPartner, constRow, getConst] at *; omega
  | strokeTop => simp only [clampToPartner, constRow, getConst] at *; omega
  | strokeBottom => simp only [clampToPartner, constRow, getConst] at *; omega
  | _ => exact hv

theorem inRanges_putConst {k : Constants} {c : ConstId} {v : Nat} (hk : inRanges k)
    (hv : (constRow c).lo ≤ v ∧ v ≤ (constRow c).hi) : inRanges (putConst k v c) := by
  intro d
  rw [getConst_putConst]
  split
  next e => subst e; exact hv
  next => exact hk d

/-- SET_CONSTANT keeps the partners in order (R191). -/
theorem putConst_partners {k : Constants} (c : ConstId) (value : Int) (hk : inRanges k) (hd : k.driveMin ≤ k.driveMax)
    (hs : k.strokeBottom + 100 ≤ k.strokeTop) :
    (putConst k (heldValue k c value) c).driveMin ≤ (putConst k (heldValue k c value) c).driveMax
      ∧ (putConst k (heldValue k c value) c).strokeBottom + 100 ≤ (putConst k (heldValue k c value) c).strokeTop := by
  have top := hk .strokeTop
  cases c with
  | driveMin => exact ⟨Nat.min_le_right _ _, hs⟩
  | driveMax => exact ⟨Nat.le_max_right _ _, hs⟩
  | strokeTop => exact ⟨hd, Nat.le_max_right _ _⟩
  | strokeBottom =>
    refine ⟨hd, ?_⟩
    simp only [putConst, heldValue, clampToPartner, constRow, getConst] at *
    omega
  | _ => exact ⟨hd, hs⟩

theorem constantsLaw_putConst {c : ConstId} {value : Int} (h : ConstantsLaw s) :
    ConstantsLaw { s with clp := { s.clp with consts := putConst s.clp.consts (heldValue s.clp.consts c value) c } } := by
  obtain ⟨hk, hd, hs⟩ := (constantsLaw_iff s).mp h
  refine (constantsLaw_iff _).mpr ⟨?_, putConst_partners c value hk hd hs⟩
  exact inRanges_putConst hk (clampToPartner_range hk (clampInt_toNat_range (constRow_ordered c) value))

theorem constantsLaw_defaults (h : s.clp.consts = defaultConstants) : ConstantsLaw s := by
  have : ConstantsLaw State.reset := by decide
  unfold ConstantsLaw at *
  rw [h]
  exact this

/-- The constants after a move of a command that owns none. -/
theorem constantsLaw_of_consts (h : t.clp.consts = s.clp.consts) (law : ConstantsLaw s) : ConstantsLaw t := by
  unfold ConstantsLaw at *; rw [h]; exact law

theorem constantsLaw_move (m : Move own p s q t) (law : ConstantsLaw s) : ConstantsLaw t := by
  cases m with
  | quiet h => exact constantsLaw_of_consts (by rw [h.clp]) law
  | port c h => exact constantsLaw_of_consts h.consts law
  | transfer => exact constantsLaw_of_consts (by rw [rolesPassed_keeps]) law
  | makeActive => exact constantsLaw_of_consts (by rw [makeActive_keeps]) law
  | append => exact constantsLaw_of_consts (by rw [appendOperation_keeps]) law
  | mark h => exact constantsLaw_of_consts (by rw [markStarted_cons h]) law
  | leaveShadow => exact constantsLaw_of_consts (by rw [leaveShadow_keeps]) law
  | leave out why h =>
    obtain ⟨_, _, _, _, _, _, _, _, _, _, _, _, hclp⟩ := leaveQueue_cons h out why
    exact constantsLaw_of_consts (by rw [hclp, fireIn_consts]) law
  | setConst => exact constantsLaw_putConst law
  | power => exact constantsLaw_defaults rfl
  | _ => exact law

/-- Settles O52. -/
theorem stepKeepsTheConstants : Obligations.StepKeepsTheConstants := fun _ _ h hstep =>
  step_keeps_of_move constantsLaw_move (fun _ => id) (fun _ _ => id) h hstep

/-! ## The chainage and its source -/

theorem allInRange_of_map {l l' : List Operation} (h : l'.map opCore = l.map opCore) :
    (l'.all fun op => startInRange op.params) = l.all fun op => startInRange op.params := by
  have : ∀ l : List Operation, (l.all fun op => startInRange op.params) = (l.map opCore).all fun c => startInRange c.1 := by
    intro l; rw [List.all_map]; rfl
  rw [this, this, h]

theorem setAside_of_map {m m' : Option Shadow} (h : m'.map (·.setAside) = m.map (·.setAside)) :
    (m'.all fun m => decide (m.setAside ≤ accTop)) = m.all fun m => decide (m.setAside ≤ accTop) := by
  cases m <;> cases m' <;> simp_all

theorem setAside_map {f : Shadow → Shadow} (o : Option Shadow)
    (hf : ∀ m, (f m).setAside = m.setAside := by intro; rfl) :
    (o.map f).map (·.setAside) = o.map (·.setAside) := by
  cases o with
  | none => rfl
  | some m => exact congrArg some (hf m)

theorem chainageLaw_handOn (v : Int) (h : ChainageLaw s) : ChainageLaw (handOn v s) := by
  obtain ⟨hacc, hops, hsm⟩ := h
  exact ⟨hacc, hops, (setAside_of_map (setAside_map s.sm)).trans hsm⟩

theorem opAtSetting_core (c : Nat) (op : Operation) : opCore (opAtSetting c op) = opCore op :=
  Prod.ext (opAtSetting_params c op) (opAtSetting_isWaiting c op)

theorem map_opAtSetting_core (c : Nat) (l : List Operation) : (l.map (opAtSetting c)).map opCore = l.map opCore := by
  rw [List.map_map]; exact List.map_congr_left fun op _ => opAtSetting_core c op

theorem chainageLaw_move (m : Move own p s q t) (law : ChainageLaw s) : ChainageLaw t := by
  obtain ⟨hacc, hops, hsm⟩ := law
  have kept : ChainageLaw s := ⟨hacc, hops, hsm⟩
  cases m with
  | quiet h => exact ⟨h.acc ▸ hacc, (allInRange_of_map h.ops).trans hops, (setAside_of_map h.sm).trans hsm⟩
  | drive => exact chainageLaw_handOn _ (s := setLoopState _ s) kept
  | cut => exact chainageLaw_handOn _ kept
  | driven => exact chainageLaw_handOn _ kept
  | startLift => exact chainageLaw_handOn _ kept
  | transfer => rw [rolesPassed_keeps]; exact kept
  | makeActive => rw [makeActive_keeps]; exact kept
  | travel h => exact ⟨h hacc, hops, hsm⟩
  | @setting _ _ c _ hc =>
    refine ⟨?_, (allInRange_of_map (map_opAtSetting_core c s.oq.ops)).trans hops,
      (setAside_of_map (setAside_map s.sm)).trans hsm⟩
    rw [setTheChainage_cc]
    have := hc hops
    show 1000 * c ≤ accTop
    unfold accTop
    omega
  | append _ _ _ _ hc => rw [appendOperation_keeps]; exact ⟨hacc, by simp [List.all_append, hops, hc], hsm⟩
  | @leave _ _ op rest out why h =>
    obtain ⟨hoq, _, _, _, hcc, _, hsm', _⟩ := leaveQueue_cons h out why
    rw [h, List.all_cons, Bool.and_eq_true] at hops
    refine ⟨by rw [hcc]; exact hacc, by rw [hoq]; exact hops.2, ?_⟩
    rw [hsm']
    exact (setAside_of_map (setAside_map s.sm)).trans hsm
  | @mark _ op rest h =>
    rw [markStarted_cons h]
    rw [h] at hops
    exact ⟨hacc, hops, hsm⟩
  | power => exact ⟨Nat.zero_le _, rfl, rfl⟩
  | @beginShadow _ m _ hm =>
    refine ⟨?_, hops, by simpa [hm] using hacc⟩
    show 1000 * (s.cc.acc / 1000) ≤ accTop
    omega
  | leaveShadow =>
    unfold leaveShadow
    split
    · exact kept
    next m h =>
      rw [h] at hsm
      exact ⟨by simpa using hsm, hops, rfl⟩
  | _ => exact kept

theorem isSome_of_setAside {m m' : Option Shadow} (h : m'.map (·.setAside) = m.map (·.setAside)) :
    m'.isSome = m.isSome := by
  have := congrArg Option.isSome h
  simpa using this

theorem sourceLaw_of (hsource : t.cc.source = s.cc.source) (hsm : t.sm.isSome = s.sm.isSome) (law : SourceLaw s) :
    SourceLaw t := by
  unfold SourceLaw at *; rw [hsource, hsm]; exact law

theorem sourceLaw_handOn (v : Int) (law : SourceLaw s) : SourceLaw (handOn v s) :=
  sourceLaw_of (s := s) rfl Option.isSome_map law

theorem sourceLaw_move (m : Move own p s q t) (law : SourceLaw s) : SourceLaw t := by
  cases m with
  | quiet h => exact sourceLaw_of h.source (isSome_of_setAside h.sm) law
  | drive => exact sourceLaw_handOn _ (s := setLoopState _ s) law
  | cut => exact sourceLaw_handOn _ law
  | driven => exact sourceLaw_handOn _ law
  | startLift => exact sourceLaw_handOn _ law
  | transfer => rw [rolesPassed_keeps]; exact law
  | makeActive => rw [makeActive_keeps]; exact law
  | setting => exact sourceLaw_of (s := s) rfl Option.isSome_map law
  | append => rw [appendOperation_keeps]; exact law
  | leave out why h =>
    obtain ⟨_, _, _, _, hcc, _, hsm, _⟩ := leaveQueue_cons h out why
    exact sourceLaw_of (by rw [hcc]) (by rw [hsm, Option.isSome_map]) law
  | mark h => rw [markStarted_cons h]; exact law
  | power => exact ⟨nofun, nofun⟩
  | beginShadow => exact ⟨fun _ => rfl, fun _ => rfl⟩
  | leaveShadow =>
    unfold leaveShadow
    split
    · exact law
    · exact ⟨nofun, nofun⟩
  | _ => exact law

/-- Settles O53. -/
theorem stepKeepsTheChainageInRange : Obligations.StepKeepsTheChainageInRange :=
  ⟨fun _ _ h hstep => step_keeps_of_move chainageLaw_move (fun _ => id) (fun _ _ => id) h hstep,
    fun _ _ h hstep => step_keeps_of_move sourceLaw_move (fun _ => id) (fun _ _ => id) h hstep⟩

/-! ## The bounded lists and counters -/

theorem portLaw_move (m : Move own p s q t) (law : PortLaw s) : PortLaw t := by
  cases m with
  | quiet h => unfold PortLaw at *; rw [h.clp]; exact law
  | port c h => exact h.bounded law
  | transfer => rw [rolesPassed_keeps]; exact law
  | makeActive => rw [makeActive_keeps]; exact law
  | append => rw [appendOperation_keeps]; exact law
  | mark h => rw [markStarted_cons h]; exact law
  | leave out why h =>
    obtain ⟨_, _, _, _, _, _, _, _, _, _, _, _, hclp⟩ := leaveQueue_cons h out why
    unfold PortLaw
    rw [hclp]
    exact portLaw_fireIn _ s.clock (chainage s) law
  | power =>
    have : PortLaw State.reset := by decide
    exact this
  | leaveShadow => rw [leaveShadow_keeps]; exact law
  | _ => exact law

theorem window_of_law {l : LoopCtx} (law : WindowLaw s) (h : s.gl.loop = some l) : l.window.length ≤ 4 := by
  unfold WindowLaw at law
  rw [h] at law
  exact of_decide_eq_true law

theorem windowLaw_some {l : LoopCtx} (h : t.gl.loop = some l) (hl : l.window.length ≤ 4) : WindowLaw t :=
  by unfold WindowLaw; rw [h]; exact decide_eq_true hl

theorem windowLaw_none (h : t.gl.loop = none) : WindowLaw t := by
  unfold WindowLaw; rw [h]; rfl

theorem windowLaw_move (m : Move own p s q t) (law : WindowLaw s) : WindowLaw t := by
  cases m with
  | quiet h => unfold WindowLaw at *; rw [h.gl]; exact law
  | loop hl h => exact windowLaw_some rfl (h.window (window_of_law law hl))
  | @drive _ l _ st hl =>
    refine windowLaw_some (l := { l with state := st }) ?_ (window_of_law (l := l) law hl)
    rw [handOn_gl, setLoopState_eq hl]
  | @track _ l _ hl => exact windowLaw_some rfl (window_of_law (l := l) law hl)
  | @seen _ l _ hl => exact windowLaw_some rfl (window_of_law (l := l) law hl)
  | transfer => rw [rolesPassed_keeps]; exact law
  | makeActive => rw [makeActive_keeps]; exact law
  | setting =>
    cases hl : s.gl.loop with
    | none => exact windowLaw_none (congrArg (Option.map _) hl)
    | some l => exact windowLaw_some (congrArg (Option.map _) hl) (window_of_law (l := l) law hl)
  | append => rw [appendOperation_keeps]; exact law
  | leave out why h =>
    obtain ⟨_, hgl, _⟩ := leaveQueue_cons h out why
    exact windowLaw_none (by rw [hgl])
  | mark h => rw [markStarted_cons h]; exact law
  | startDig _ _ _ _ hw => exact windowLaw_some rfl (by rw [hw]; decide)
  | startLoop _ _ hw => exact windowLaw_some rfl (by rw [hw]; decide)
  | power => rfl
  | leaveShadow => rw [leaveShadow_keeps]; exact law
  | _ => exact law

theorem pairsFit_of_law {r : TieRecord} (law : PairLaw s) (h : s.te.tie = some r) : PairsFit r := by
  unfold PairLaw at law; rw [h] at law; exact law

theorem pairLaw_some {r : TieRecord} (h : t.te.tie = some r) (hr : PairsFit r) : PairLaw t := by
  unfold PairLaw; rw [h]; exact hr

theorem pairLaw_none (h : t.te.tie = none) : PairLaw t := by unfold PairLaw; rw [h]; rfl

/-- A tie whose reckoning starts afresh holds no pair, and wants as many as before (R129). -/
theorem pairsFit_atSetting (c : Nat) {r : TieRecord} (h : PairsFit r) : PairsFit (tieAtSetting c r) := by
  unfold tieAtSetting
  split
  · exact h
  · simp only [PairsFit, Bool.and_eq_true, decide_eq_true_eq] at h ⊢
    obtain ⟨⟨⟨least, most⟩, _⟩, _⟩ := h
    refine ⟨⟨⟨least, most⟩, Nat.zero_le _⟩, ?_⟩
    simp; omega

theorem pairLaw_move (m : Move own p s q t) (law : PairLaw s) : PairLaw t := by
  cases m with
  | quiet h => unfold PairLaw at *; rw [h.tie]; exact law
  | tie hr _ h => exact pairLaw_some rfl (h (pairsFit_of_law law hr))
  | endTie => exact pairLaw_none rfl
  | startTie _ _ _ hp => exact pairLaw_some rfl hp
  | transfer => exact pairLaw_none rfl
  | makeActive => rw [makeActive_keeps]; exact law
  | setting =>
    cases hr : s.te.tie with
    | none => exact pairLaw_none (congrArg (Option.map _) hr)
    | some r => exact pairLaw_some (congrArg (Option.map _) hr) (pairsFit_atSetting _ (pairsFit_of_law law hr))
  | append => rw [appendOperation_keeps]; exact law
  | leave out why h =>
    obtain ⟨_, _, _, hte, _⟩ := leaveQueue_cons h out why
    unfold PairLaw at *
    rw [hte]
    exact law
  | mark h => rw [markStarted_cons h]; exact law
  | power => rfl
  | leaveShadow => rw [leaveShadow_keeps]; exact law
  | _ => exact law

/-- Settles O54: each of the three laws is kept move by move. -/
theorem stepKeepsTheBounds : Obligations.StepKeepsTheBounds := fun _ _ hport hwindow hpair hstep =>
  ⟨step_keeps_of_move portLaw_move (fun _ => id) (fun _ _ => id) hport hstep,
    step_keeps_of_move windowLaw_move (fun _ => id) (fun _ _ => id) hwindow hstep,
    step_keeps_of_move pairLaw_move (fun _ => id) (fun _ _ => id) hpair hstep⟩

end Sys2Proof.Proofs
end

section
/-! The operation queue and the sequencer (R140, R143, R166), and the sheets in use (R45): what holds between two moves of
a command while the queue changes, and at its ends. -/

namespace Sys2Proof.Proofs

open Sys2Proof.Machine Sys2Proof.Safety Sys2Proof.Laws

variable {own : Owner} {p q : Phase} {s t : State}

/-! ## The operation queue -/

/-- What holds of the queue between two moves. -/
def QueueAt : Phase → State → Prop
  | .between, s => s.oq.ops.length ≤ 4 ∧ s.oq.ops.all isWaiting = true ∧ s.os.faulted = false ∧ s.oq.seq ≠ .faulted
  | .faulting, s => s.oq.ops.length ≤ 4 ∧ s.oq.ops.tail.all isWaiting = true ∧ s.os.faulted = true
  | _, s => QueueLaw s

theorem onlyHeadBegun_eq (l : List Operation) :
    onlyHeadBegun l = match l.map opCore with
      | [] => true
      | c :: cs => !c.2 && cs.all (·.2) := by
  cases l with
  | nil => rfl
  | cons op rest => simp [onlyHeadBegun, opCore, Function.comp_def]

theorem all_isWaiting_eq (l : List Operation) : l.all isWaiting = (l.map opCore).all (·.2) := by
  simp [opCore, Function.comp_def]

theorem isEmpty_of_core {l l' : List Operation} (h : l'.map opCore = l.map opCore) : l'.isEmpty = l.isEmpty := by
  have := congrArg List.isEmpty h
  simpa using this

/-- What the queue's laws read. -/
theorem queueAt_congr (h : QueueAt p s) (hops : t.oq.ops.map opCore = s.oq.ops.map opCore := by rfl)
    (hseq : t.oq.seq = s.oq.seq := by rfl) (hf : t.os.faulted = s.os.faulted := by rfl) : QueueAt p t := by
  have hlen : t.oq.ops.length = s.oq.ops.length := by simpa using congrArg List.length hops
  have hempty := isEmpty_of_core hops
  have law : QueueLaw s → QueueLaw t := by
    intro ⟨four, head, seq, emptied⟩
    refine ⟨hlen ▸ four, ?_, ?_, fun hft => ?_⟩
    · rw [onlyHeadBegun_eq, hops, ← onlyHeadBegun_eq, head]
    · rw [hseq, hf, hempty, seq]
    · have := emptied (hf ▸ hft)
      rw [this, List.isEmpty_nil] at hempty
      exact List.isEmpty_iff.mp hempty
  cases p with
  | between =>
    obtain ⟨four, waiting, sound, seq⟩ := h
    exact ⟨hlen ▸ four, by rw [all_isWaiting_eq, hops, ← all_isWaiting_eq, waiting], hf ▸ sound, hseq ▸ seq⟩
  | faulting =>
    obtain ⟨four, waiting, broken⟩ := h
    refine ⟨hlen ▸ four, ?_, hf ▸ broken⟩
    rw [all_isWaiting_eq, List.map_tail, hops, ← List.map_tail, ← all_isWaiting_eq, waiting]
  | _ => exact law h

theorem queueAt_handOn (v : Int) (p : Phase) (h : QueueAt p s) : QueueAt p (handOn v s) :=
  queueAt_congr h (hf := (handOn_os_keeps v s).2.2.1)

/-- A queue that holds an operation is neither FAULTED nor IDLE, and its head has begun. -/
theorem queueLaw_of_cons {op : Operation} {rest : List Operation} (h : QueueLaw s) (hops : s.oq.ops = op :: rest) :
    s.os.faulted = false ∧ s.oq.seq = .executing ∧ isWaiting op = false ∧ rest.all isWaiting = true := by
  obtain ⟨_, head, seq, emptied⟩ := h
  have sound : s.os.faulted = false := by
    cases hf : s.os.faulted with
    | false => rfl
    | true => rw [emptied hf] at hops; cases hops
  rw [hops] at head seq
  rw [sound] at seq
  simp only [onlyHeadBegun, Bool.and_eq_true, Bool.not_eq_true'] at head
  exact ⟨sound, seq, head.1, head.2⟩

/-- Behind the head every operation waits (R140). -/
theorem tail_waits (h : QueueLaw s) : s.oq.ops.tail.all isWaiting = true := by
  cases hops : s.oq.ops with
  | nil => rfl
  | cons op rest => exact (queueLaw_of_cons h hops).2.2.2

theorem queueAt_append {op : Operation} (hw : op.state = .waiting) (hseq : s.oq.seq ≠ .faulted)
    (hlen : s.oq.ops.length < 4) (h : QueueLaw s) :
    QueueAt (if s.oq.ops.isEmpty then .between else .settled) (appendOperation op s) := by
  have waits : isWaiting op = true := by unfold isWaiting; rw [hw]; rfl
  have longer : (s.oq.ops ++ [op]).length ≤ 4 := by rw [List.length_append]; exact hlen
  rw [appendOperation_keeps]
  cases hops : s.oq.ops with
  | nil =>
    obtain ⟨_, _, seq, _⟩ := h
    refine ⟨by simp, by simp [waits], ?_, hseq⟩
    rw [hops] at seq
    cases hf : s.os.faulted with
    | false => rfl
    | true => rw [hf] at seq; exact absurd seq hseq
  | cons first rest =>
    obtain ⟨sound, seq, begun, waiting⟩ := queueLaw_of_cons h hops
    refine ⟨by rw [← hops]; exact longer, ?_, ?_, fun hf => ?_⟩
    · simp [onlyHeadBegun, begun, List.all_append, waiting, waits]
    · show s.oq.seq = _
      simp [seq, sound]
    · exact absurd (sound.symm.trans hf) nofun

theorem queueAt_leave {op : Operation} {rest : List Operation} (hops : s.oq.ops = op :: rest) (out : OpOutcome)
    (why : OpReason) (h : QueueAt p s) : QueueAt (leftPhase p) (leaveQueue out why s) := by
  obtain ⟨hoq, _, _, _, _, hos, _⟩ := leaveQueue_cons hops out why
  have hf : (leaveQueue out why s).os.faulted = s.os.faulted := by rw [hos]; exact (handOn_os_keeps 0 s).2.2.1
  have fewer : ∀ n, s.oq.ops.length ≤ n → (leaveQueue out why s).oq.ops.length ≤ n := fun n hn => by
    rw [hops, List.length_cons] at hn
    rw [hoq]
    exact Nat.le_of_succ_le hn
  have left : QueueLaw s → QueueAt .between (leaveQueue out why s) := fun law => by
    obtain ⟨sound, seq, _, waiting⟩ := queueLaw_of_cons law hops
    refine ⟨fewer 4 law.1, by rw [hoq]; exact waiting, hf.trans sound, ?_⟩
    rw [hoq]
    exact fun e => nomatch seq.symm.trans e
  cases p with
  | between =>
    obtain ⟨four, waiting, sound, seq⟩ := h
    rw [hops, List.all_cons, Bool.and_eq_true] at waiting
    exact ⟨fewer 4 four, by rw [hoq]; exact waiting.2, hf.trans sound, by rw [hoq]; exact seq⟩
  | faulting =>
    obtain ⟨four, waiting, broken⟩ := h
    rw [hops, List.tail_cons] at waiting
    refine ⟨fewer 4 four, ?_, hf.trans broken⟩
    rw [hoq]
    exact List.all_eq_true.mpr fun x hx => List.all_eq_true.mp waiting x (List.mem_of_mem_tail hx)
  | _ => exact left h

theorem queueAt_mark {op : Operation} {rest : List Operation} (hops : s.oq.ops = op :: rest) (h : QueueAt .between s) :
    QueueAt .starting (markStarted s) := by
  obtain ⟨four, waiting, sound, seq⟩ := h
  rw [markStarted_cons hops]
  rw [hops] at four waiting
  rw [List.all_cons, Bool.and_eq_true] at waiting
  refine ⟨four, waiting.2, ?_, fun hf => absurd (sound.symm.trans hf) nofun⟩
  show (if s.oq.seq = .idle then SeqState.executing else s.oq.seq) = if s.os.faulted then _ else _
  rw [sound]
  cases hs : s.oq.seq with
  | idle => rfl
  | executing => rfl
  | faulted => exact absurd hs seq

theorem queueAt_idle (hops : s.oq.ops = []) (hp : p = .settled ∨ p = .between) (h : QueueAt p s) :
    QueueLaw (idleSequencer s) := by
  have idled : (if s.oq.seq = .faulted then SeqState.faulted else .idle)
      = if s.os.faulted then .faulted else if s.oq.ops.isEmpty then .idle else .executing := by
    rw [hops]
    rcases hp with rfl | rfl
    · obtain ⟨_, _, seq, _⟩ := h
      rw [seq, hops]
      cases s.os.faulted <;> rfl
    · obtain ⟨_, _, sound, seq⟩ := h
      rw [if_neg seq, sound]
      rfl
  exact ⟨by show s.oq.ops.length ≤ 4; simp [hops], by show onlyHeadBegun s.oq.ops = true; rw [hops]; rfl, idled,
    fun _ => hops⟩

theorem queueAt_move (m : Move own p s q t) (h : QueueAt p s) : QueueAt q t := by
  cases m with
  | quiet hq => exact queueAt_congr h hq.ops hq.seq hq.faulted
  | drive => exact queueAt_handOn (s := setLoopState _ s) _ .settled h
  | cut => exact queueAt_handOn _ _ h
  | driven => exact queueAt_handOn _ .settled h
  | startLift => exact queueAt_handOn _ .settled h
  | port => exact queueAt_congr h
  | loop => exact queueAt_congr h
  | tie => exact queueAt_congr h
  | endTie => exact queueAt_congr h
  | transfer => rw [rolesPassed_keeps]; exact h
  | makeActive => rw [makeActive_keeps]; exact queueAt_congr h
  | setting => exact queueAt_congr h (map_opAtSetting_core _ s.oq.ops)
  | append hw hseq hlen => exact queueAt_append hw hseq hlen h
  | leave out why hops => exact queueAt_leave hops out why h
  | mark hops => exact queueAt_mark hops h
  | idle hp hops => exact queueAt_idle hops hp h
  | fault => exact ⟨h.1, tail_waits (s := s) h, rfl⟩
  | faulted hops =>
    obtain ⟨four, _, broken⟩ := h
    refine ⟨four, by show onlyHeadBegun s.oq.ops = true; rw [hops]; rfl, ?_, fun _ => hops⟩
    show SeqState.faulted = if s.os.faulted then _ else _
    rw [broken]
    rfl
  | clearFault _ hf =>
    obtain ⟨four, head, _, emptied⟩ := h
    refine ⟨four, head, ?_, nofun⟩
    show SeqState.idle = if s.oq.ops.isEmpty then .idle else .executing
    rw [emptied hf]
    rfl
  | power => exact ⟨Nat.zero_le _, rfl, rfl, nofun⟩
  | leaveShadow => rw [leaveShadow_keeps]; exact h
  | _ => exact h

/-- Settles O55: the queue between two moves of a command, and at its ends. -/
theorem stepKeepsTheQueue : Obligations.StepKeepsTheQueue := fun _ _ h hstep =>
  step_keeps (fun ms => law_of_moves queueAt_move ms) (fun _ => id) (fun _ _ => id) h hstep

/-! ## The sheets in use -/

/-- An operation is a DIG that names the sheet. -/
def namesSheet (n : Fin 6) : OpParams → Bool
  | .dig m _ _ _ => m == n
  | _ => false

theorem digsNaming_eq_countP (n : Fin 6) (l : List Operation) :
    digsNaming n l = l.countP fun op => namesSheet n op.params := rfl

theorem digsNaming_eq (n : Fin 6) (l : List Operation) :
    digsNaming n l = (l.map opCore).countP fun c => namesSheet n c.1 := by
  rw [digsNaming_eq_countP, List.countP_map]; rfl

theorem digsNaming_cons (n : Fin 6) (op : Operation) (l : List Operation) :
    digsNaming n (op :: l) = digsNaming n l + if namesSheet n op.params then 1 else 0 := by
  rw [digsNaming_eq, digsNaming_eq, List.map_cons, List.countP_cons]; rfl

theorem digsNaming_append (n : Fin 6) (op : Operation) (l : List Operation) :
    digsNaming n (l ++ [op]) = digsNaming n l + if namesSheet n op.params then 1 else 0 := by
  rw [digsNaming_eq, digsNaming_eq, List.map_append, List.countP_append, List.map_singleton, List.countP_singleton]; rfl

/-- The in-use count of a sheet once an operation has taken or left it (R45). -/
theorem adjustInUse_inUse (f : Nat → Nat) (x : OpParams) (s : State) (n : Fin 6) :
    (sheetAt (adjustInUse f x s) n).inUse = if namesSheet n x then f (sheetAt s n).inUse else (sheetAt s n).inUse := by
  unfold adjustInUse
  cases x with
  | dig m k0 e c0 =>
    by_cases hm : n = m
    · subst hm; simp [namesSheet]
    · rw [sheetAt_modifySheet_of_ne hm, namesSheet, if_neg (by simpa using Ne.symm hm)]
  | _ => rfl

/-- The sheets' law reads the sheets and the parameters of the operations. -/
theorem sheetLaw_congr (hss : t.ss = s.ss) (hops : t.oq.ops.map opCore = s.oq.ops.map opCore) (h : SheetLaw s) :
    SheetLaw t := by
  intro n
  obtain ⟨count, locked⟩ := h n
  have same : sheetAt t n = sheetAt s n := by unfold sheetAt; rw [hss]
  rw [same, digsNaming_eq, hops, ← digsNaming_eq]
  exact ⟨count, locked⟩

/-- A sheet that a DIG names is SEALED when the DIG is taken (R142). -/
theorem isSealed_of_names {x : OpParams} {n : Fin 6} (h : unsealedDig x s = false) (hn : namesSheet n x = true) :
    isSealed (sheetAt s n).body = true := by
  cases x with
  | dig m k0 e c0 =>
    have : m = n := by simpa [namesSheet] using hn
    subst this
    simpa [unsealedDig] using h
  | _ => cases hn

theorem sheetLaw_append {op : Operation} (hseal : unsealedDig op.params s = false) (h : SheetLaw s) :
    SheetLaw (appendOperation op s) := by
  intro n
  obtain ⟨count, locked⟩ := h n
  have hops : (appendOperation op s).oq.ops = s.oq.ops ++ [op] := by rw [appendOperation_keeps]
  have inUse : (sheetAt (appendOperation op s) n).inUse = _ := adjustInUse_inUse (· + 1) op.params _ n
  rw [appendOperation_body, inUse, hops, digsNaming_append]
  cases hn : namesSheet n op.params with
  | true => exact ⟨congrArg (· + 1) count, fun _ => isSealed_of_names hseal hn⟩
  | false => exact ⟨count, locked⟩

theorem sheetLaw_leave {op : Operation} {rest : List Operation} (hops : s.oq.ops = op :: rest) (out : OpOutcome)
    (why : OpReason) (h : SheetLaw s) : SheetLaw (leaveQueue out why s) := by
  intro n
  obtain ⟨count, locked⟩ := h n
  obtain ⟨hoq, _⟩ := leaveQueue_cons hops out why
  have inUse : (sheetAt (leaveQueue out why s) n).inUse = _ :=
    (congrArg (fun ss => (ss[n.val] : Sheet).inUse) (leaveQueue_ss hops out why)).trans
      (adjustInUse_inUse (· - 1) op.params s n)
  rw [hops, digsNaming_cons] at count
  rw [leaveQueue_body hops, inUse, hoq]
  cases hn : namesSheet n op.params with
  | true =>
    rw [hn] at count
    exact ⟨by simp [count], fun less => locked (Nat.lt_of_lt_of_le less (Nat.sub_le _ _))⟩
  | false =>
    rw [hn] at count
    exact ⟨count, locked⟩

/-- New contents for a sheet that no operation holds, or that is not SEALED, keep the law (R38 to R42). -/
theorem sheetLaw_setBody {n : Fin 6} (b : SheetBody) (free : (sheetAt s n).inUse = 0 ∨ isSealed (sheetAt s n).body = false)
    (h : SheetLaw s) : SheetLaw (setBody n b s) := by
  have unused : (sheetAt s n).inUse = 0 := by
    rcases free with free | free
    · exact free
    · have := (h n).2
      rw [free] at this
      exact Nat.eq_zero_of_not_pos fun hpos => nomatch this hpos
  intro j
  by_cases hj : j = n
  · subst hj
    have : sheetAt (setBody j b s) j = { sheetAt s j with body := b } := sheetAt_modifySheet_same j _ s
    rw [this]
    exact ⟨(h j).1, fun hpos => absurd hpos (by show ¬ 0 < (sheetAt s j).inUse; omega)⟩
  · have : sheetAt (setBody n b s) j = sheetAt s j := sheetAt_modifySheet_of_ne hj _ s
    rw [this]
    exact h j

theorem sheetLaw_move (m : Move own p s q t) (h : SheetLaw s) : SheetLaw t := by
  cases m with
  | quiet hq => exact sheetLaw_congr hq.ss hq.ops h
  | transfer => rw [rolesPassed_keeps]; exact h
  | makeActive => rw [makeActive_keeps]; exact h
  | setting => exact sheetLaw_congr (s := s) rfl (map_opAtSetting_core _ s.oq.ops) h
  | append _ _ _ hseal => exact sheetLaw_append hseal h
  | leave out why hops => exact sheetLaw_leave hops out why h
  | mark hops =>
    rw [markStarted_cons hops]
    intro n
    have := h n
    rw [hops] at this
    exact this
  | power =>
    have : SheetLaw State.reset := by decide
    exact this
  | sheet _ free => exact sheetLaw_setBody _ free h
  | leaveShadow => rw [leaveShadow_keeps]; exact h
  | _ => exact h

/-- Settles O56. -/
theorem stepKeepsTheSheetsInUse : Obligations.StepKeepsTheSheetsInUse := fun _ _ h hstep =>
  step_keeps_of_move sheetLaw_move (fun _ => id) (fun _ _ => id) h hstep

end Sys2Proof.Proofs
end

section
/-! The Plane Acceptance Table (R18) and the coils (R161), move by move. -/

namespace Sys2Proof.Proofs

open Sys2Proof.Machine Sys2Proof.Safety Sys2Proof.Laws

variable {own : Owner} {p q : Phase} {s t : State}

/-! ## Roles -/

theorem role_modifyEntry (i : Fin 8) (f : PlaneEntry → PlaneEntry) (s : State) (j : Fin 8) :
    (entryAt (modifyEntry i f s) j).role = if j = i then (f (entryAt s i)).role else (entryAt s j).role := by
  split
  next h => subst h; rw [entryAt_modifyEntry_same]
  next h => rw [entryAt_modifyEntry_of_ne h]

/-- The entry found is ACTIVE. -/
theorem role_of_activeEntry {i : Fin 8} (h : activeEntry s = some i) : (entryAt s i).role = .active := by
  have := List.find?_some h
  simpa using this

/-- With none found no entry is ACTIVE. -/
theorem not_active_of_none (h : activeEntry s = none) (i : Fin 8) : (entryAt s i).role ≠ .active := by
  have mem : i ∈ entryIndices := by revert i; decide
  have := List.find?_eq_none.mp h i mem
  simpa using this

/-- Where the windows stand as they did and no entry has left EMPTY, the roles alone decide. -/
theorem planeLaw_of_roles (law : PlaneLaw s) (windows : ∀ j, (planeCore (entryAt t j)).2 = (planeCore (entryAt s j)).2)
    (used : ∀ j, (entryAt t j).role ≠ .empty → (entryAt s j).role ≠ .empty)
    (one : ∀ i j, (entryAt t i).role = .active → (entryAt t j).role = .active → i = j)
    (candidate : ∀ i, (entryAt t i).role = .candidate ↔ t.te.tie.map (·.candidate) = some i) : PlaneLaw t := by
  intro i j
  refine ⟨fun hij hi hj => ?_, one i j, candidate i⟩
  obtain ⟨hlo, hhi, _⟩ : (entryAt t i).sigLo = (entryAt s i).sigLo ∧ (entryAt t i).sigHi = (entryAt s i).sigHi ∧ _ :=
    by simpa [planeCore] using windows i
  obtain ⟨hlo', hhi', _⟩ : (entryAt t j).sigLo = (entryAt s j).sigLo ∧ (entryAt t j).sigHi = (entryAt s j).sigHi ∧ _ :=
    by simpa [planeCore] using windows j
  rw [hlo, hhi, hlo', hhi']
  exact (law i j).1 hij (used i hi) (used j hj)

/-- The law reads the roles, the windows and the candidate the tie names. -/
theorem planeLaw_congr (law : PlaneLaw s) (htie : t.te.tie.map (·.candidate) = s.te.tie.map (·.candidate) := by rfl)
    (h : ∀ j, planeCore (entryAt t j) = planeCore (entryAt s j) := by intro; rfl) : PlaneLaw t := by
  have role : ∀ j, (entryAt t j).role = (entryAt s j).role := fun j => congrArg Prod.fst (h j)
  refine planeLaw_of_roles law (fun j => congrArg Prod.snd (h j)) (fun j => by rw [role]; exact id) (fun i j => ?_)
    fun i => ?_
  · rw [role, role]; exact (law i j).2.1
  · rw [role, htie]; exact (law i i).2.2

theorem planeLaw_endTie {r : TieRecord} {o : Option TieOutcome} (hr : s.te.tie = some r) (law : PlaneLaw s) :
    PlaneLaw (tieEnded r o s) := by
  have role : ∀ j, (entryAt (tieEnded r o s) j).role = if j = r.candidate then .standby else (entryAt s j).role :=
    role_modifyEntry r.candidate (fun p => { p with role := .standby, tie := none }) s
  have named : (entryAt s r.candidate).role = .candidate := (law r.candidate r.candidate).2.2.mpr (by rw [hr]; rfl)
  refine planeLaw_of_roles law (tieEnded_core r o s) (fun j => ?_) (fun i j => ?_) fun i => ?_
  · rw [role]
    split
    next h => rw [h, named]; exact nofun
    · exact id
  · rw [role, role]
    split
    · exact nofun
    · split
      · exact fun _ => nofun
      · exact (law i j).2.1
  · rw [role]
    refine ⟨fun h => ?_, nofun⟩
    split at h
    · cases h
    next hne =>
      have := (law i i).2.2.mp h
      rw [hr] at this
      exact absurd (Option.some.inj this).symm hne

/-- A tie that begins: its entry CANDIDATE without a tie (R124). -/
def tieStarted (e : Fin 8) (r : TieRecord) (s : State) : State :=
  { modifyEntry e (fun p => { p with role := .candidate, tie := none }) s with te := { s.te with tie := some r } }

theorem role_tieStarted (e : Fin 8) (r : TieRecord) (s : State) (j : Fin 8) :
    (entryAt (tieStarted e r s) j).role = if j = e then .candidate else (entryAt s j).role :=
  role_modifyEntry e (fun p => { p with role := .candidate, tie := none }) s j

theorem planeLaw_startTie {e : Fin 8} {r : TieRecord} (hnone : s.te.tie = none)
    (hrole : mayBeTied (entryAt s e).role = true) (hc : r.candidate = e) (law : PlaneLaw s) :
    PlaneLaw (tieStarted e r s) := by
  have role := role_tieStarted e r s
  have used : (entryAt s e).role ≠ .empty := fun h => by rw [h] at hrole; cases hrole
  refine planeLaw_of_roles law (candidateSet_core e s) (fun j => ?_) (fun i j => ?_) fun i => ?_
  · rw [role]
    split
    next h => rw [h]; exact fun _ => used
    · exact id
  · rw [role, role]
    split
    · exact nofun
    · split
      · exact fun _ => nofun
      · exact (law i j).2.1
  · show _ ↔ some r.candidate = some i
    rw [role, hc]
    split
    next h => exact ⟨fun _ => congrArg some h.symm, fun _ => rfl⟩
    next hne =>
      refine ⟨fun h => ?_, fun h => absurd (Option.some.inj h).symm hne⟩
      have := (law i i).2.2.mp h
      rw [hnone] at this
      cases this

/-- The roles after a transfer (R131). -/
theorem role_rolesPassed (e : Fin 8) (x : Tie) (s : State) (j : Fin 8) :
    (entryAt (rolesPassed e x s) j).role
      = if activeEntry s = some j then .retired else if j = e then .active else (entryAt s j).role := by
  have first := role_modifyEntry e (fun p => { p with role := .active, tie := some x }) s j
  unfold rolesPassed
  dsimp only
  cases ha : activeEntry s with
  | none => simpa using first
  | some i =>
    have second := role_modifyEntry i (fun p => { p with role := .retired })
      (modifyEntry e (fun p => { p with role := .active, tie := some x }) s) j
    refine second.trans ?_
    by_cases hij : j = i
    · rw [if_pos hij, hij, if_pos rfl]
    · rw [if_neg hij, if_neg (fun h => hij (Option.some.inj h).symm)]
      exact first

theorem planeLaw_transfer {r : TieRecord} {o : Option TieOutcome} {x : Tie} (hr : s.te.tie = some r) (law : PlaneLaw s) :
    PlaneLaw { rolesPassed r.candidate x s with te := { s.te with tie := none, last := o } } := by
  have role := role_rolesPassed r.candidate x s
  have named : (entryAt s r.candidate).role = .candidate := (law r.candidate r.candidate).2.2.mpr (by rw [hr]; rfl)
  have retired : ∀ j, activeEntry s = some j → (entryAt s j).role = .active := fun j => role_of_activeEntry
  have active : ∀ j, (entryAt (rolesPassed r.candidate x s) j).role = .active → j = r.candidate := by
    intro j
    rw [role]
    split
    · exact nofun
    next hne =>
      split
      next h => exact fun _ => h
      next =>
        intro h
        cases ha : activeEntry s with
        | none => exact absurd h (not_active_of_none ha j)
        | some i =>
          have := (law i j).2.1 (retired i ha) h
          exact absurd (this ▸ ha) hne
  refine planeLaw_of_roles law (rolesPassed_core r.candidate x s) (fun j => ?_) (fun i j hi hj => ?_) fun i => ?_
  · show (entryAt (rolesPassed r.candidate x s) j).role ≠ _ → _
    rw [role]
    split
    next h => rw [retired j h]; exact fun _ => nofun
    · split
      next h => rw [h, named]; exact fun _ => nofun
      · exact id
  · exact (active i hi).trans (active j hj).symm
  · refine ⟨fun h => ?_, nofun⟩
    have h : (entryAt (rolesPassed r.candidate x s) i).role = .candidate := h
    rw [role] at h
    split at h
    · cases h
    · split at h
      · cases h
      next hne =>
        have := (law i i).2.2.mp h
        rw [hr] at this
        exact absurd (Option.some.inj this).symm hne

/-- The roles once an entry has been made ACTIVE (R145 step 2). -/
theorem role_makeActive {e : Fin 8} (h : (entryAt s e).role ≠ .active) (j : Fin 8) :
    (entryAt (makeActive e s) j).role
      = if j = e then .active else if (entryAt s j).role = .active then .standby else (entryAt s j).role := by
  unfold makeActive
  rw [if_neg h]
  refine (role_modifyEntry e _ _ j).trans ?_
  split
  · rfl
  · rw [entryAt_mapEntries]
    split <;> rfl

theorem planeLaw_makeActive {e : Fin 8} (h : (entryAt s e).role = .standby ∨ (entryAt s e).role = .active)
    (law : PlaneLaw s) : PlaneLaw (makeActive e s) := by
  rcases h with h | h
  · have role := role_makeActive (s := s) (e := e) (by rw [h]; exact nofun)
    have active : ∀ j, (entryAt (makeActive e s) j).role = .active → j = e := by
      intro j
      rw [role]
      split
      next hj => exact fun _ => hj
      · split
        · exact nofun
        next hn => exact fun ha => absurd ha hn
    refine planeLaw_of_roles law (makeActive_core e s) (fun j => ?_)
      (fun i j hi hj => (active i hi).trans (active j hj).symm) fun i => ?_
    · rw [role]
      split
      next hj => rw [hj, h]; exact fun _ => nofun
      · split
        next ha => rw [ha]; exact fun _ => nofun
        · exact id
    · have htie : (makeActive e s).te.tie = s.te.tie := by rw [makeActive_keeps]
      rw [role, htie, ← (law i i).2.2]
      split
      next hi => rw [hi, h]; exact ⟨nofun, nofun⟩
      · split
        next ha => rw [ha]; exact ⟨nofun, nofun⟩
        · exact Iff.rfl
  · unfold makeActive
    rw [if_pos h]
    exact law

theorem role_restPlanes (s : State) (j : Fin 8) :
    (entryAt (restPlanes s) j).role = if (entryAt s j).role = .empty then .empty else .standby := by
  rw [entryAt_restPlanes]; rfl

theorem planeLaw_restPlanes (hnone : s.te.tie = none) (law : PlaneLaw s) : PlaneLaw (restPlanes s) := by
  refine planeLaw_of_roles law (fun j => by rw [entryAt_restPlanes]; rfl) (fun j => ?_) (fun i j h => ?_) fun i => ?_
  · rw [role_restPlanes]
    split
    · exact fun h => absurd rfl h
    next h => exact fun _ => h
  · rw [role_restPlanes] at h
    split at h <;> cases h
  · show _ ↔ s.te.tie.map (·.candidate) = some i
    rw [role_restPlanes, hnone]
    refine ⟨fun h => ?_, nofun⟩
    split at h <;> cases h

theorem windowsOverlap_comm (lo hi lo' hi' : Nat) : windowsOverlap lo hi lo' hi' = windowsOverlap lo' hi' lo hi :=
  Bool.and_comm _ _

/-- A window that overlaps no other entry's (R19). -/
theorem apart_of_overlapsOther {i j : Fin 8} {lo hi : Nat} (h : overlapsOther i lo hi s = false) (hj : j ≠ i)
    (used : (entryAt s j).role ≠ .empty) : windowsOverlap lo hi (entryAt s j).sigLo (entryAt s j).sigHi = false := by
  have mem : ∀ k : Fin 8, k ∈ entryIndices := by decide
  have := List.any_eq_false.mp h j (mem j)
  simpa [hj, used] using this

/-- An entry that is neither ACTIVE nor CANDIDATE, before and after, is defined anew or cleared (R19, R20). -/
theorem planeLaw_replace {i : Fin 8} {e : PlaneEntry} (idle : inWork (entryAt s i).role = false) (he : inWork e.role = false)
    (apart : e.role ≠ .empty → overlapsOther i e.sigLo e.sigHi s = false) (law : PlaneLaw s) :
    PlaneLaw (modifyEntry i (fun _ => e) s) := by
  obtain ⟨notActive, notCandidate⟩ := (inWork_eq_false_iff _).mp he
  have same : entryAt (modifyEntry i (fun _ => e) s) i = e := entryAt_modifyEntry_same i _ s
  have other : ∀ {j}, j ≠ i → entryAt (modifyEntry i (fun _ => e) s) j = entryAt s j := fun h =>
    entryAt_modifyEntry_of_ne h _ s
  intro j k
  refine ⟨fun hjk hj hk => ?_, fun hj hk => ?_, ?_⟩
  · by_cases hji : j = i
    · subst hji
      rw [same] at hj ⊢
      rw [other (Ne.symm hjk)] at hk ⊢
      exact apart_of_overlapsOther (apart hj) (Ne.symm hjk) hk
    · rw [other hji] at hj ⊢
      by_cases hki : k = i
      · subst hki
        rw [same] at hk ⊢
        rw [windowsOverlap_comm]
        exact apart_of_overlapsOther (apart hk) hjk hj
      · rw [other hki] at hk ⊢
        exact (law j k).1 hjk hj hk
  · have hji : j ≠ i := fun h => by subst h; rw [same] at hj; exact notActive hj
    have hki : k ≠ i := fun h => by subst h; rw [same] at hk; exact notActive hk
    rw [other hji] at hj
    rw [other hki] at hk
    exact (law j k).2.1 hj hk
  · show _ ↔ s.te.tie.map (·.candidate) = some j
    by_cases hji : j = i
    · subst hji
      rw [same, ← (law j j).2.2]
      exact ⟨fun h => absurd h notCandidate, fun h => absurd h ((inWork_eq_false_iff _).mp idle).2⟩
    · rw [other hji]
      exact (law j j).2.2

theorem planeLaw_move (m : Move own p s q t) (law : PlaneLaw s) : PlaneLaw t := by
  cases m with
  | quiet h => exact planeLaw_congr law (by rw [h.tie]) h.planes
  | tie hr hc => exact planeLaw_congr law ((congrArg some hc).trans (congrArg (Option.map _) hr).symm)
  | endTie hr => exact planeLaw_endTie hr law
  | startTie hnone hrole hc => exact planeLaw_startTie hnone hrole hc law
  | transfer hr => exact planeLaw_transfer hr law
  | makeActive h => exact planeLaw_makeActive h law
  | restPlanes hnone => exact planeLaw_restPlanes hnone law
  | @setting _ _ c =>
    refine planeLaw_congr law ?_
    show (s.te.tie.map (tieAtSetting c)).map (·.candidate) = _
    rw [Option.map_map]
    refine congrFun (congrArg Option.map (funext fun r => ?_)) _
    simp only [Function.comp, tieAtSetting]
    split <;> rfl
  | append => rw [appendOperation_keeps]; exact law
  | leave out why h =>
    obtain ⟨_, _, _, hte, _, _, _, hpat, _⟩ := leaveQueue_cons h out why
    exact planeLaw_congr law (by rw [hte]) fun j => by unfold entryAt; rw [hpat]
  | mark h => rw [markStarted_cons h]; exact law
  | power =>
    have : PlaneLaw State.reset := by decide
    exact this
  | @definePlane _ i lo hi e _ idle apart he =>
    obtain ⟨role, hlo, hhi⟩ : e.role = .standby ∧ e.sigLo = lo ∧ e.sigHi = hi := by simpa [planeCore] using he
    exact planeLaw_replace idle (by rw [role]; rfl) (fun _ => by rw [hlo, hhi]; exact apart) law
  | clearPlane _ idle => exact planeLaw_replace idle rfl (fun h => absurd rfl h) law
  | leaveShadow => rw [leaveShadow_keeps]; exact law
  | _ => exact law

/-- Settles O57. -/
theorem stepKeepsThePlanes : Obligations.StepKeepsThePlanes := fun _ _ h hstep =>
  step_keeps_of_move planeLaw_move (fun _ => id) (fun _ _ => id) h hstep

/-! ## The coils -/

/-- Both coils off is what R161 asks whatever else holds. -/
theorem coilLaw_of_off (h : t.os.raiseDuty = 0 ∧ t.os.lowerDuty = 0) : CoilLaw t := ⟨.inl h.1, fun _ => h⟩

/-- Duties that stand keep the law where nothing newly holds them at 0. -/
theorem coilLaw_congr (law : CoilLaw s) (raised : t.os.raiseDuty = s.os.raiseDuty := by rfl)
    (lowered : t.os.lowerDuty = s.os.lowerDuty := by rfl)
    (held : dutiesHeld t = true → dutiesHeld s = true := by exact id) : CoilLaw t := by
  unfold CoilLaw
  rw [raised, lowered]
  exact ⟨law.1, law.2 ∘ held⟩

theorem dutiesHeld_handOn (v : Int) (s : State) : dutiesHeld (handOn v s) = dutiesHeld s := by
  unfold dutiesHeld
  rw [(handOn_os_keeps v s).2.2.1, handOn_sm, Option.isSome_map]
  rfl

theorem coilLaw_handOn (v : Int) (s : State) : CoilLaw (handOn v s) := by
  refine ⟨handOn_one_coil v s, fun held => ?_⟩
  rw [dutiesHeld_handOn] at held
  rw [handOn_raiseDuty, handOn_lowerDuty, if_pos held, if_pos held]
  exact ⟨rfl, rfl⟩

theorem dutiesHeld_congr (hsm : t.sm.isSome = s.sm.isSome) (hf : t.os.faulted = s.os.faulted)
    (hops : t.oq.ops.isEmpty = s.oq.ops.isEmpty) : dutiesHeld t = dutiesHeld s := by
  unfold dutiesHeld; rw [hsm, hf, hops]

theorem coilLaw_move (m : Move own p s q t) (law : CoilLaw s) : CoilLaw t := by
  cases m with
  | quiet h =>
    refine coilLaw_congr law h.raiseDuty h.lowerDuty fun held => ?_
    rwa [dutiesHeld_congr (isSome_of_setAside h.sm) h.faulted (isEmpty_of_core h.ops)] at held
  | drive => exact coilLaw_handOn _ _
  | cut => exact coilLaw_handOn _ _
  | driven => exact coilLaw_handOn _ _
  | startLift => exact coilLaw_handOn _ _
  | transfer => rw [rolesPassed_keeps]; exact law
  | makeActive => rw [makeActive_keeps]; exact law
  | @setting _ _ c =>
    have same : dutiesHeld (setTheChainage c s) = dutiesHeld s :=
      dutiesHeld_congr Option.isSome_map rfl List.isEmpty_map
    exact coilLaw_congr law (held := fun held => same ▸ held)
  | @append _ op =>
    rw [appendOperation_keeps]
    refine coilLaw_congr (s := s) law (held := fun held => ?_)
    have grown : (s.oq.ops ++ [op]).isEmpty = false := by simp
    simp only [dutiesHeld, grown, Bool.or_false] at held
    simp only [dutiesHeld, held, Bool.true_or]
  | leave out why h =>
    obtain ⟨_, _, _, _, _, hos, _⟩ := leaveQueue_cons h out why
    exact coilLaw_of_off (by rw [hos]; exact handOn_zero_duties s)
  | mark h =>
    rw [markStarted_cons h]
    refine coilLaw_congr law (held := fun held => ?_)
    simpa [dutiesHeld, h] using held
  | fault => exact coilLaw_of_off ⟨rfl, rfl⟩
  | clearFault _ hf => exact coilLaw_of_off (law.2 (by simp [dutiesHeld, hf]))
  | power => exact coilLaw_of_off ⟨rfl, rfl⟩
  | beginShadow => exact coilLaw_of_off ⟨rfl, rfl⟩
  | leaveShadow _ hops =>
    rw [leaveShadow_keeps]
    exact coilLaw_of_off (law.2 (by simp [dutiesHeld, hops]))
  | _ => exact law

end Sys2Proof.Proofs
end

section
/-! The internal permit (R169): formed again by every command that touches what it is formed of. -/

namespace Sys2Proof.Proofs

open Sys2Proof.Machine Sys2Proof.Safety Sys2Proof.Laws

variable {s t u : State}

/-! ## What the permit is formed of -/

/-- The blocks the permit is formed of stand as they did. -/
structure PermitKept (s t : State) : Prop where
  lt : t.lt = s.lt := by rfl
  gl : t.gl = s.gl := by rfl
  oq : t.oq = s.oq := by rfl
  os : t.os = s.os := by rfl
  sm : t.sm = s.sm := by rfl

namespace PermitKept

theorem trans (a : PermitKept s t) (b : PermitKept t u) : PermitKept s u where
  lt := b.lt.trans a.lt
  gl := b.gl.trans a.gl
  oq := b.oq.trans a.oq
  os := b.os.trans a.os
  sm := b.sm.trans a.sm

theorem law (h : PermitKept s t) (law : PermitLaw s) : PermitLaw t := by
  have holds : permitHolds t = permitHolds s := by
    simp only [permitHolds, operationTravels, loopStateTravels, executing, h.lt, h.gl, h.oq, h.os]
  unfold PermitLaw
  rw [holds, h.os, h.sm]
  exact law

end PermitKept

theorem countDamaged_permitKept (s : State) : PermitKept s (countDamaged s) := by
  rw [(countDamaged_keeps s).1]; exact {}

theorem countOverrun_permitKept (s : State) : PermitKept s (countOverrun s) := by
  rw [(countOverrun_keeps s).1]; exact {}

theorem endTie_permitKept (why : TieReason) (spread : Option Int) (s : State) : PermitKept s (endTie why spread s) := by
  rw [endTie_keeps]; exact {}

/-! ## The mast line and the qualifier -/

theorem goodStrikeFrame_permitKept (sig first last status : Byte) (s : State) :
    PermitKept s (goodStrikeFrame sig first last status s) := by
  unfold goodStrikeFrame offerStrike
  split
  · exact {}
  · split
    · exact .trans {} (countOverrun_permitKept _)
    · exact {}

theorem checkStrikeFrame_permitKept (frame : List Byte) (s : State) : PermitKept s (checkStrikeFrame frame s) := by
  unfold checkStrikeFrame
  split
  · split
    · exact goodStrikeFrame_permitKept _ _ _ _ s
    · exact countDamaged_permitKept s
  · exact {}

theorem takeMastByte_permitKept (data : Byte) (isMarked : Bool) (s : State) :
    PermitKept s (takeMastByte data isMarked s) := by
  unfold takeMastByte
  split
  · split <;> exact {}
  · split
    · exact .trans {} (countDamaged_permitKept _)
    · unfold collectMastByte
      dsimp only
      split
      · exact {}
      · exact .trans {} (checkStrikeFrame_permitKept _ _)

theorem setMastLine_permitKept (on : Bool) (s : State) : PermitKept s (setMastLine on s) := by
  unfold setMastLine
  split
  · split <;> exact {}
  · exact {}

theorem routeStrike_permitKept (q : QStrike) (s : State) : PermitKept s (routeStrike q s) := by
  unfold routeStrike
  split
  · dsimp only
    split <;> exact {}
  · exact {}
  · exact {}

theorem qualify_permitKept (x : Strike) (s : State) : PermitKept s (qualify x s) := by
  unfold qualify
  split
  · exact {}
  · unfold matchStrike
    split
    · unfold foreignStrike
      dsimp only
      split <;> exact {}
    · exact .trans {} (routeStrike_permitKept _ _)

/-! ## The cab line -/

theorem goodCabFrame_permitKept (address kind tag : Nat) (body : List Byte) (s : State) :
    PermitKept s (goodCabFrame address kind tag body s) := by
  unfold goodCabFrame
  split
  · exact {}
  · split
    · unfold addressedRequest
      split
      · exact {}
      · split <;> exact {}
    · split
      · unfold broadcastFrame
        split <;> exact {}
      · exact {}

theorem collectCabByte_permitKept (data : Byte) (bytes : List Byte) (s : State) :
    PermitKept s (collectCabByte data bytes s) := by
  unfold collectCabByte
  dsimp only
  split
  · exact {}
  · split
    · exact {}
    · split
      · exact {}
      · unfold checkCabFrame
        split
        · exact .trans {} (goodCabFrame_permitKept _ _ _ _ _)
        · exact {}

theorem takeCabByte_permitKept (data : Byte) (stop : Bool) (s : State) : PermitKept s (takeCabByte data stop s) := by
  unfold takeCabByte
  split
  · split <;> exact {}
  · split
    · exact collectCabByte_permitKept _ _ s
    · exact {}

/-! ## The chainage and the LOST drive -/

/-- The operation's part of the permit reads the kind that executes and the phase of the run (R169). -/
theorem operationTravels_eq (s : State) :
    operationTravels s = match executingKind s with
      | some .dig => decide (runPhase s = some .running)
      | some .hold => true
      | _ => false := by
  unfold operationTravels executingKind
  cases executing s with
  | none => rfl
  | some x =>
    obtain ⟨op, info⟩ := x
    cases hp : op.params with
    | dig n k0 e c0 =>
      cases hl : s.lt with
      | none => simp [kindOf, runPhase, hp, hl]
      | some r => simp [kindOf, runPhase, hp, hl, beq_eq_decide]
    | _ => simp [kindOf, hp]

theorem loopTravels_atSetting (c : Nat) (st : LoopState) : loopTravels (loopAtSetting c st) = loopTravels st := by
  cases st <;> rfl

theorem loopStateTravels_setTheChainage (c : Nat) (s : State) :
    loopStateTravels (setTheChainage c s) = loopStateTravels s := by
  have hgl : (setTheChainage c s).gl.loop = s.gl.loop.map fun l => { l with state := loopAtSetting c l.state } := rfl
  unfold loopStateTravels
  rw [hgl]
  cases s.gl.loop with
  | none => rfl
  | some l => exact loopTravels_atSetting c l.state

theorem permitLaw_setTheChainage (c : Nat) (law : PermitLaw s) : PermitLaw (setTheChainage c s) := by
  have holds : permitHolds (setTheChainage c s) = permitHolds s := by
    unfold permitHolds
    rw [operationTravels_eq, operationTravels_eq, executingKind_setTheChainage, loopStateTravels_setTheChainage]
    rfl
  have hsm : (setTheChainage c s).sm.isNone = s.sm.isNone := Option.isNone_map
  unfold PermitLaw
  rw [holds, hsm]
  exact law

/-- A LOST drive that ends leaves a loop that was not travelling where it was (R112, R169). -/
theorem permitLaw_lostDriveEnds {l : LoopCtx} {d : LostDrive} (hl : s.gl.loop = some l) (hst : l.state = .lost (some d))
    (law : PermitLaw s) : PermitLaw (handOn 0 (setLoopState (.lost none) s)) := by
  have still : loopStateTravels s = false := by unfold loopStateTravels; simp [hl, hst, loopTravels]
  have still' : loopStateTravels (handOn 0 (setLoopState (.lost none) s)) = false := by
    unfold loopStateTravels
    rw [handOn_gl, setLoopState_eq hl]
    rfl
  obtain ⟨_, _, _, _, _, permit, pin⟩ := handOn_os_keeps 0 (setLoopState (.lost none) s)
  simp only [PermitLaw, permitHolds, still, Bool.and_false, Bool.false_and] at law
  simp only [PermitLaw, permitHolds, still', Bool.and_false, Bool.false_and]
  exact ⟨permit.trans law.1, pin.trans law.2⟩

/-! ## Every command -/

/-- The state a command answers has the permit as formed. -/
def Formed (o : Host.Outcome State Fault Refusal) : Prop := ∃ t, o = .next t ∧ PermitLaw t

theorem Formed.of (h : PermitLaw t) : Formed (.next t) := ⟨t, rfl, h⟩

/-- A reply touches nothing the permit is formed of. -/
theorem Formed.answer {q : Request} {tag : Nat} {result : ResultCode} {contents : Contents} (h : PermitLaw t) :
    Formed (.next (Machine.answer q tag result contents t)) := .of (t := Machine.answer q tag result contents t) h

theorem execMastByte_formed (data : Byte) (parity stop : Bool) (law : PermitLaw s) :
    Formed (execMastByte data parity stop s) := by
  unfold execMastByte
  split
  · exact .of ((takeMastByte_permitKept _ _ s).law law)
  · exact .of law

theorem execMastGapTimerExpiry_formed (law : PermitLaw s) : Formed (execMastGapTimerExpiry s) := by
  unfold execMastGapTimerExpiry
  split
  · exact .of ((PermitKept.trans {} (countDamaged_permitKept _)).law law)
  · exact .of law

theorem execStrikeTake_formed (law : PermitLaw s) : Formed (execStrikeTake s) := by
  unfold execStrikeTake
  split
  · split
    · exact .of ((PermitKept.trans {} (qualify_permitKept _ _)).law law)
    · exact .of law
  · exact .of law

theorem execGradeLoopStrike_formed (law : PermitLaw s) : Formed (execGradeLoopStrike s) := by
  unfold execGradeLoopStrike
  split
  · exact .of (formPermit_law _)
  · exact .of law

theorem execBenchStrike_formed (law : PermitLaw s) : Formed (execBenchStrike s) := by
  unfold execBenchStrike
  split
  · exact .of (formPermit_law _)
  · exact .of law

theorem execTieStrike_formed (law : PermitLaw s) : Formed (execTieStrike s) := by
  unfold execTieStrike
  split
  · exact .of (formPermit_law _)
  · exact .of law

theorem execWheelTransition_formed (pair : WheelPair) (law : PermitLaw s) : Formed (execWheelTransition pair s) := by
  unfold execWheelTransition
  split
  · exact .of law
  · dsimp only
    split
    · exact .of law
    · exact .of (formPermit_law _)

theorem execStillnessTimerExpiry_formed (law : PermitLaw s) : Formed (execStillnessTimerExpiry s) := by
  unfold execStillnessTimerExpiry
  split
  · exact .of (formPermit_law _)
  · exact .of law

theorem execBeamAgeTimerExpiry_formed (law : PermitLaw s) : Formed (execBeamAgeTimerExpiry s) := by
  unfold execBeamAgeTimerExpiry
  split
  · split
    · exact .of (formPermit_law _)
    · exact .of law
  · exact .of law

theorem execSearchTimerExpiry_formed (law : PermitLaw s) : Formed (execSearchTimerExpiry s) := by
  unfold execSearchTimerExpiry
  split
  · split
    · exact .of (formPermit_law _)
    · exact .of law
  · exact .of law

theorem execLostDriveTimerExpiry_formed (law : PermitLaw s) : Formed (execLostDriveTimerExpiry s) := by
  unfold execLostDriveTimerExpiry
  split
  next l hl =>
    split
    next d hst => exact .of (permitLaw_lostDriveEnds hl hst law)
    · exact .of law
  · exact .of law

theorem execTieTimerExpiry_formed (law : PermitLaw s) : Formed (execTieTimerExpiry s) := by
  unfold execTieTimerExpiry
  split
  · split
    · exact .of ((endTie_permitKept _ _ s).law law)
    · exact .of law
  · exact .of law

theorem execDwellTimerExpiry_formed (law : PermitLaw s) : Formed (execDwellTimerExpiry s) := by
  unfold execDwellTimerExpiry
  split
  · exact .of (formPermit_law _)
  · exact .of law

theorem execShadowPeriodTimerExpiry_formed (law : PermitLaw s) : Formed (execShadowPeriodTimerExpiry s) := by
  unfold execShadowPeriodTimerExpiry
  split
  · exact .of (formPermit_law _)
  · exact .of law

theorem execCabByte_formed (data : Byte) (stop : Bool) (law : PermitLaw s) : Formed (execCabByte data stop s) := by
  unfold execCabByte
  split
  · exact .of law
  · exact .of ((takeCabByte_permitKept _ _ s).law law)

theorem execCabGapTimerExpiry_formed (law : PermitLaw s) : Formed (execCabGapTimerExpiry s) := by
  unfold execCabGapTimerExpiry
  split <;> exact .of law

theorem execReplyComplete_formed (law : PermitLaw s) : Formed (execReplyComplete s) := by
  unfold execReplyComplete
  split <;> exact .of law

theorem execPoll_formed (tag : Nat) (law : PermitLaw s) : Formed (execPoll tag s) := by
  unfold execPoll
  split <;> exact .of law

theorem execSetConstant_formed (tag id : Nat) (value : Int) (law : PermitLaw s) :
    Formed (execSetConstant tag id value s) := by
  unfold execSetConstant
  split
  · exact .of law
  · split <;> exact .of law

theorem execGetConstant_formed (tag id : Nat) (law : PermitLaw s) : Formed (execGetConstant tag id s) := by
  unfold execGetConstant
  split <;> exact .of law

theorem execOpenSheet_formed (tag n : Nat) (f : HeaderFields) (law : PermitLaw s) :
    Formed (execOpenSheet tag n f s) := by
  unfold execOpenSheet
  split
  · split
    · exact .of law
    · split <;> exact .of law
  · exact .of law

theorem execAppendSegment_formed (tag n length : Nat) (grade : Int) (marker stop : Nat) (law : PermitLaw s) :
    Formed (execAppendSegment tag n length grade marker stop s) := by
  unfold execAppendSegment
  split
  · exact .of law
  · split
    · split <;> exact .of law
    · exact .of law

theorem execSealSheet_formed (tag n : Nat) (law : PermitLaw s) : Formed (execSealSheet tag n s) := by
  unfold execSealSheet
  split
  · exact .of law
  · split
    · exact .of law
    · split <;> exact .of law
    · exact .of law

theorem execEraseSheet_formed (tag n : Nat) (law : PermitLaw s) : Formed (execEraseSheet tag n s) := by
  unfold execEraseSheet
  split
  · exact .of law
  · split <;> exact .of law

theorem execReadSheet_formed (tag n index : Nat) (law : PermitLaw s) : Formed (execReadSheet tag n index s) := by
  unfold execReadSheet
  split
  · exact .of law
  · split
    · exact .of law
    · split <;> exact .of law

theorem execDefinePlane_formed (tag entry lo hi : Nat) (slope : Int) (law : PermitLaw s) :
    Formed (execDefinePlane tag entry lo hi slope s) := by
  unfold execDefinePlane
  split <;> exact .of law

theorem execClearPlane_formed (tag entry : Nat) (law : PermitLaw s) : Formed (execClearPlane tag entry s) := by
  unfold execClearPlane
  split
  · exact .of law
  · split <;> exact .of law

theorem execReadPlane_formed (tag entry : Nat) (law : PermitLaw s) : Formed (execReadPlane tag entry s) := by
  unfold execReadPlane
  split <;> exact .of law

theorem execMastLine_formed (tag setting : Nat) (law : PermitLaw s) : Formed (execMastLine tag setting s) := by
  unfold execMastLine
  split
  · exact .of ((setMastLine_permitKept _ s).law law)
  · exact .of law

theorem execSetChainage_formed (tag value : Nat) (law : PermitLaw s) : Formed (execSetChainage tag value s) := by
  unfold execSetChainage
  split
  · exact .of law
  · split <;> exact .of (permitLaw_setTheChainage _ law)

theorem execEnqueue_formed (tag opTag : Nat) (f : OpFields) (standing : Nat) (law : PermitLaw s) :
    Formed (execEnqueue tag opTag f standing s) := by
  unfold execEnqueue
  split
  · exact .of law
  · exact .answer (formPermit_law _)

theorem execSoftAbort_formed (tag : Nat) (law : PermitLaw s) : Formed (execSoftAbort tag s) := by
  unfold execSoftAbort
  split
  · exact .of law
  · exact .answer (formPermit_law _)

theorem execStop_formed (broadcast : Bool) (tag : Nat) (s : State) : Formed (execStop broadcast tag s) := by
  unfold execStop
  split
  · exact .of (t := takeInHand _ _ _ (stopAll s)) (formPermit_law (endTie .stopped none _))
  · exact .answer (formPermit_law _)

theorem execResume_formed (tag : Nat) (law : PermitLaw s) : Formed (execResume tag s) := by
  unfold execResume
  split
  · exact .answer (formPermit_law _)
  · exact .of law

theorem execTieStart_formed (tag entry n mode : Nat) (law : PermitLaw s) :
    Formed (execTieStart tag entry n mode s) := by
  unfold execTieStart
  split <;> exact .of law

theorem execTieCommit_formed (tag : Nat) (law : PermitLaw s) : Formed (execTieCommit tag s) := by
  unfold execTieCommit
  split
  · exact .of law
  · split
    · exact .of law
    · exact .answer (formPermit_law _)

theorem execTieCancel_formed (tag : Nat) (law : PermitLaw s) : Formed (execTieCancel tag s) := by
  unfold execTieCancel
  split
  · exact .of ((endTie_permitKept _ _ s).law law)
  · exact .of law

theorem execClearFault_formed (tag : Nat) (law : PermitLaw s) : Formed (execClearFault tag s) := by
  unfold execClearFault
  split
  · exact .of law
  · split
    · exact .answer (formPermit_law _)
    · exact .of law

theorem execShadowOn_formed (tag : Nat) (law : PermitLaw s) : Formed (execShadowOn tag s) := by
  unfold execShadowOn
  split
  · exact .of law
  · exact .answer (formPermit_law _)

theorem execShadowOff_formed (tag : Nat) (law : PermitLaw s) : Formed (execShadowOff tag s) := by
  unfold execShadowOff
  split
  · exact .of law
  · split
    · exact .of law
    · exact .answer (formPermit_law _)

theorem execShadowGap_formed (tag distance : Nat) (law : PermitLaw s) : Formed (execShadowGap tag distance s) := by
  unfold execShadowGap
  split
  · exact .of law
  · split
    · exact .of law
    next m hm =>
      refine .of ?_
      have hsm : s.sm.isNone = false := by rw [hm]; rfl
      unfold PermitLaw at *
      rw [hsm] at law
      exact law

/-- Every command leaves the permit formed: it forms it last, or changes nothing it is formed of. -/
theorem exec_formed (i : Instr) (s : State) (law : PermitLaw s) : Formed (exec i s) := by
  cases i with
  | powerOn a0 a1 w first => exact .of (formPermit_law _)
  | mastByte data parity stop => exact execMastByte_formed _ _ _ law
  | mastGapTimerExpiry => exact execMastGapTimerExpiry_formed law
  | strikeTake => exact execStrikeTake_formed law
  | gradeLoopStrike => exact execGradeLoopStrike_formed law
  | benchStrike => exact execBenchStrike_formed law
  | tieStrike => exact execTieStrike_formed law
  | wheelTransition pair => exact execWheelTransition_formed _ law
  | stillnessTimerExpiry => exact execStillnessTimerExpiry_formed law
  | beamAgeTimerExpiry => exact execBeamAgeTimerExpiry_formed law
  | searchTimerExpiry => exact execSearchTimerExpiry_formed law
  | lostDriveTimerExpiry => exact execLostDriveTimerExpiry_formed law
  | tieTimerExpiry => exact execTieTimerExpiry_formed law
  | dwellTimerExpiry => exact execDwellTimerExpiry_formed law
  | sampleTick r => exact .of (formPermit_law _)
  | shadowPeriodTimerExpiry => exact execShadowPeriodTimerExpiry_formed law
  | cabByte data stop => exact execCabByte_formed _ _ law
  | cabGapTimerExpiry => exact execCabGapTimerExpiry_formed law
  | replyComplete => exact execReplyComplete_formed law
  | unknownKindRequest tag kind => exact .of law
  | identify tag => exact .of law
  | status tag => exact .of law
  | poll tag => exact execPoll_formed _ law
  | readFlags tag => exact .of law
  | clearFlags tag mask => exact .of law
  | setEnables tag mask => exact .of law
  | readCounts tag => exact .of law
  | setConstant tag id value => exact execSetConstant_formed _ _ _ law
  | getConstant tag id => exact execGetConstant_formed _ _ law
  | restart tag => exact .answer (formPermit_law _)
  | openSheet tag n f => exact execOpenSheet_formed _ _ _ law
  | appendSegment tag n length grade marker stop => exact execAppendSegment_formed _ _ _ _ _ _ law
  | sealSheet tag n => exact execSealSheet_formed _ _ law
  | eraseSheet tag n => exact execEraseSheet_formed _ _ law
  | readSheet tag n index => exact execReadSheet_formed _ _ _ law
  | definePlane tag entry lo hi slope => exact execDefinePlane_formed _ _ _ _ _ law
  | clearPlane tag entry => exact execClearPlane_formed _ _ law
  | readPlane tag entry => exact execReadPlane_formed _ _ law
  | mastLine tag setting => exact execMastLine_formed _ _ law
  | setChainage tag value => exact execSetChainage_formed _ _ law
  | enqueue tag opTag f standing => exact execEnqueue_formed _ _ _ _ law
  | readQueue tag => exact .of law
  | softAbort tag => exact execSoftAbort_formed _ law
  | stop broadcast tag => exact execStop_formed _ _ s
  | resume tag => exact execResume_formed _ law
  | tieStart tag entry n mode => exact execTieStart_formed _ _ _ _ law
  | tieCommit tag => exact execTieCommit_formed _ law
  | tieCancel tag => exact execTieCancel_formed _ law
  | readTie tag => exact .of law
  | clearFault tag => exact execClearFault_formed _ law
  | shadowOn tag => exact execShadowOn_formed _ law
  | shadowOff tag => exact execShadowOff_formed _ law
  | shadowGap tag distance => exact execShadowGap_formed _ _ law

theorem step_formed (law : PermitLaw s) (hstep : step s = .next t) : PermitLaw t := by
  have commanded : ∀ i s', PermitLaw s' → exec i s' = .next t → PermitLaw t := fun i s' law' hexec => by
    obtain ⟨t', ht', formed⟩ := exec_formed i s' law'
    rw [ht'] at hexec
    cases hexec
    exact formed
  unfold step at hstep
  split at hstep
  next c rest _ => exact commanded c { s with pending := rest } law hstep
  · split at hstep
    · exact commanded _ _ law hstep
    · cases hstep
      exact law

/-- Settles O58: the permit command by command, the coils move by move. -/
theorem stepKeepsThePermitAndTheCoils : Obligations.StepKeepsThePermitAndTheCoils := fun _ _ hpermit hcoil hstep =>
  ⟨step_formed hpermit hstep, step_keeps_of_move coilLaw_move (fun _ => id) (fun _ _ => id) hcoil hstep⟩

end Sys2Proof.Proofs
end

section
/-! The contexts of the executing operation (R27, R50, R71, R118), the high-water chainage (R27) and the bound of the drive
level (R70, R100): what holds between two moves while an operation starts or leaves, and at the ends of a command. -/

namespace Sys2Proof.Proofs

open Sys2Proof.Machine Sys2Proof.Safety Sys2Proof.Laws

variable {own : Owner} {p q : Phase} {s t : State}

/-! ## The executing kind -/

theorem executingKind_eq (s : State) :
    executingKind s = match s.oq.ops.map opCore with
      | [] => none
      | c :: _ => if c.2 then none else some (kindOf c.1) := by
  unfold executingKind executing
  cases s.oq.ops with
  | nil => rfl
  | cons op rest =>
    cases hs : op.state with
    | waiting => simp [opCore, isWaiting, hs]
    | executing info => simp [opCore, isWaiting, hs]

theorem executingKind_of_core (h : t.oq.ops.map opCore = s.oq.ops.map opCore) : executingKind t = executingKind s := by
  rw [executingKind_eq, executingKind_eq, h]

/-- Nothing executes while every operation waits. -/
theorem executingKind_of_waiting (h : s.oq.ops.all isWaiting = true) : executingKind s = none := by
  rw [executingKind_eq]
  cases hops : s.oq.ops with
  | nil => rfl
  | cons op rest =>
    rw [hops, List.all_cons, Bool.and_eq_true] at h
    simp [opCore, h.1]

theorem executingKind_of_nil (h : s.oq.ops = []) : executingKind s = none :=
  executingKind_of_waiting (by rw [h]; rfl)

/-- An operation that joins others leaves the executing one. -/
theorem executingKind_append {op : Operation} (hw : op.state = .waiting) :
    executingKind (appendOperation op s) = executingKind s := by
  have hops : (appendOperation op s).oq.ops = s.oq.ops ++ [op] := by rw [appendOperation_keeps]
  rw [executingKind_eq, executingKind_eq, hops]
  cases s.oq.ops with
  | nil => simp [opCore, isWaiting, hw]
  | cons first rest => rfl

/-- Behind the head every operation waits, so nothing executes once the head has left. -/
theorem executingKind_leave {op : Operation} {rest : List Operation} (hops : s.oq.ops = op :: rest) (out : OpOutcome)
    (why : OpReason) (queue : QueueAt p s) : executingKind (leaveQueue out why s) = none := by
  have waiting : rest.all isWaiting = true := by
    cases p with
    | between =>
      obtain ⟨_, waiting, _⟩ := queue
      rw [hops, List.all_cons, Bool.and_eq_true] at waiting
      exact waiting.2
    | faulting =>
      obtain ⟨_, waiting, _⟩ := queue
      rw [hops] at waiting
      exact waiting
    | _ => exact (queueLaw_of_cons queue hops).2.2.2
  refine executingKind_of_waiting ?_
  rw [(leaveQueue_cons hops out why).1]
  exact waiting

/-- A DIG that executes is held. -/
theorem not_dig_of_holdsDig (h : holdsDig s = false) : executingKind s ≠ some .dig := by
  intro hk
  unfold executingKind executing at hk
  unfold holdsDig at h
  cases hops : s.oq.ops with
  | nil => rw [hops] at hk; cases hk
  | cons op rest =>
    rw [hops] at hk h
    rw [List.any_cons, Bool.or_eq_false_iff] at h
    cases hs : op.state with
    | waiting => simp [hs] at hk
    | executing info =>
      simp only [hs, Option.map_some, Option.some.injEq] at hk
      cases hp : op.params with
      | dig n k0 e c0 => simp [hp] at h
      | _ => simp [hp, kindOf] at hk

/-! ## The contexts -/

/-- No context stands. -/
structure NoContext (s : State) : Prop where
  lt : s.lt = none
  loop : s.gl.loop = none
  bench : s.te.bench = none

/-- What holds of the contexts between two moves. -/
def ContextAt : Phase → State → Prop
  | .starting, s => NoContext s ∧ s.cc.chw = none
  | .placed, s => NoContext s ∧ s.cc.chw.isSome = true ∧ executingKind s = some .dig
  | _, s => ContextLaw s

/-- The contexts' law with nothing that executes. -/
theorem contextLaw_iff_of_none (h : executingKind s = none) :
    ContextLaw s ↔ NoContext s ∧ s.cc.chw = none := by
  unfold ContextLaw runPhase
  rw [h]
  constructor
  · intro ⟨hlt, hchw, hloop, hbench⟩
    have lt : s.lt = none := by simpa using hlt
    refine ⟨⟨lt, by simpa [hasLoop] using hloop, ?_⟩, by simpa using hchw⟩
    simpa [lt] using hbench
  · intro ⟨⟨lt, loop, bench⟩, chw⟩
    simp [lt, loop, bench, chw, hasLoop]

/-- The law reads which contexts stand, the phase of the run and the kind that executes. -/
theorem contextAt_congr (h : ContextAt p s) (lt : t.lt = s.lt := by rfl)
    (chw : t.cc.chw.isSome = s.cc.chw.isSome := by rfl) (loop : t.gl.loop.isSome = s.gl.loop.isSome := by rfl)
    (bench : t.te.bench.isSome = s.te.bench.isSome := by rfl)
    (kind : executingKind t = executingKind s := by rfl) : ContextAt p t := by
  have none : ∀ {α : Type} {x y : Option α}, x.isSome = y.isSome → y = none → x = none := fun h e => by
    rw [e] at h; simpa using h
  have noContext : NoContext s → NoContext t := fun c => ⟨lt.trans c.lt, none loop c.loop, none bench c.bench⟩
  cases p with
  | starting => exact ⟨noContext h.1, none chw h.2⟩
  | placed => exact ⟨noContext h.1, chw.trans h.2.1, kind.trans h.2.2⟩
  | _ =>
    show ContextLaw t
    unfold ContextLaw runPhase
    rw [lt, chw, loop, bench, kind]
    exact h

theorem contextLaw_leave {op : Operation} {rest : List Operation} (hops : s.oq.ops = op :: rest) (out : OpOutcome)
    (why : OpReason) (queue : QueueAt p s) : ContextLaw (leaveQueue out why s) := by
  obtain ⟨_, hgl, hlt, hte, hcc, _⟩ := leaveQueue_cons hops out why
  refine (contextLaw_iff_of_none (executingKind_leave hops out why queue)).mpr ⟨⟨hlt, ?_, ?_⟩, ?_⟩
  · rw [hgl]
  · rw [hte]
  · rw [hcc]

theorem contextAt_leave {op : Operation} {rest : List Operation} (hops : s.oq.ops = op :: rest) (out : OpOutcome)
    (why : OpReason) (queue : QueueAt p s) : ContextAt (leftPhase p) (leaveQueue out why s) := by
  have law := contextLaw_leave hops out why queue
  cases p <;> exact law

theorem contextAt_append {op : Operation} (hw : op.state = .waiting) (h : ContextLaw s) :
    ContextAt (if s.oq.ops.isEmpty then .between else .settled) (appendOperation op s) := by
  have law : ContextAt .settled (appendOperation op s) := by
    refine contextAt_congr (p := .settled) h ?_ ?_ ?_ ?_ (executingKind_append hw) <;> rw [appendOperation_keeps]
  split <;> exact law

theorem contextAt_mark {op : Operation} {rest : List Operation} (hops : s.oq.ops = op :: rest) (queue : QueueAt .between s)
    (h : ContextAt .between s) : ContextAt .starting (markStarted s) := by
  obtain ⟨⟨lt, loop, bench⟩, chw⟩ := (contextLaw_iff_of_none (executingKind_of_waiting queue.2.1)).mp h
  rw [markStarted_cons hops]
  exact ⟨⟨lt, loop, bench⟩, chw⟩

theorem contextLaw_idle (hp : p = .settled ∨ p = .between) (h : ContextAt p s) : ContextLaw (idleSequencer s) := by
  rcases hp with rfl | rfl <;> exact contextAt_congr (p := .settled) h

/-- The contexts' law for an operation that is no DIG (R50, R71). -/
theorem contextLaw_of_not_dig (lt : t.lt = none) (chw : t.cc.chw = none) (bench : t.te.bench = none)
    (kind : executingKind t ≠ some .dig) (loop : t.gl.loop.isSome = hasLoop (executingKind t)) : ContextLaw t := by
  refine ⟨?_, ?_, loop, ?_⟩
  · simp [lt, kind]
  · simp [chw, kind]
  · simp [bench, runPhase, lt]

theorem leaveShadow_chw (s : State) : (leaveShadow s).cc.chw = s.cc.chw := by
  unfold leaveShadow; split <;> rfl

theorem contextAt_move (m : Move own p s q t) (queue : QueueAt p s) (h : ContextAt p s) : ContextAt q t := by
  cases m with
  | quiet hq =>
    exact contextAt_congr h hq.lt (by rw [hq.chw]) (by rw [hq.gl]) hq.bench (executingKind_of_core hq.ops)
  | port => exact contextAt_congr h
  | loop hl => exact contextAt_congr h (loop := by rw [hl]; rfl)
  | drive hl =>
    refine contextAt_congr (p := .settled) h (loop := ?_)
    rw [handOn_gl, setLoopState_eq hl, hl]
    rfl
  | track hl => exact contextAt_congr h (loop := by rw [hl]; rfl)
  | cut => exact contextAt_congr h
  | seen hl => exact contextAt_congr (p := .settled) h (loop := by rw [hl]; rfl)
  | driven => exact contextAt_congr (p := .settled) h
  | run hr _ hb =>
    obtain ⟨hlt, hchw, hloop, hbench⟩ := h
    simp only [runPhase, hr, Option.map_some, Option.some.injEq] at hbench
    refine ⟨?_, hchw, hloop, ?_⟩
    · rw [hr] at hlt; exact hlt
    · simpa [runPhase] using hb hbench
  | tie => exact contextAt_congr h
  | endTie => exact contextAt_congr h
  | startTie => exact contextAt_congr h
  | transfer => rw [rolesPassed_keeps]; exact contextAt_congr h
  | makeActive => rw [makeActive_keeps]; exact contextAt_congr h
  | restPlanes => exact contextAt_congr h
  | travel _ hsome => exact contextAt_congr h (chw := hsome)
  | setting =>
    exact contextAt_congr h (loop := Option.isSome_map) (kind := executingKind_setTheChainage _ s)
  | append hw => exact contextAt_append hw h
  | leave out why hops => exact contextAt_leave hops out why queue
  | mark hops => exact contextAt_mark hops queue h
  | idle hp => exact contextLaw_idle hp h
  | place hk =>
    obtain ⟨⟨lt, loop, bench⟩, _⟩ := h
    exact ⟨⟨lt, loop, bench⟩, rfl, hk⟩
  | startDig hc _ hb =>
    obtain ⟨none, hchw, hk⟩ := h
    have hk' : executingKind s = some .dig := hk
    refine ⟨?_, ?_, ?_, ?_⟩
    · exact ⟨fun _ => hk', fun _ => rfl⟩
    · exact ⟨fun _ => hk', fun _ => hchw⟩
    · show true = hasLoop (executingKind s)
      rw [hk']
      rfl
    · simpa [runPhase] using hb none.bench
  | startLoop hk =>
    obtain ⟨none, chw⟩ := h
    refine contextLaw_of_not_dig none.lt chw none.bench ?_ ?_
    · rcases hk with hk | hk <;> exact fun dig => nomatch hk.symm.trans dig
    · rcases hk with hk | hk <;> exact (congrArg hasLoop hk).symm
  | startLift hk =>
    obtain ⟨none, chw⟩ := h
    exact contextLaw_of_not_dig none.lt chw none.bench (fun dig => nomatch hk.symm.trans dig)
      ((congrArg Option.isSome none.loop).trans (congrArg hasLoop hk).symm)
  | startDwell hk =>
    obtain ⟨none, chw⟩ := h
    exact contextLaw_of_not_dig none.lt chw none.bench (fun dig => nomatch hk.symm.trans dig)
      ((congrArg Option.isSome none.loop).trans (congrArg hasLoop hk).symm)
  | fault => exact contextAt_congr (p := .settled) h
  | faulted => exact contextAt_congr (p := .settled) h
  | clearFault => exact contextAt_congr h
  | power => exact (contextLaw_iff_of_none rfl).mpr ⟨⟨rfl, rfl, rfl⟩, rfl⟩
  | setConst => exact contextAt_congr h
  | enables => exact contextAt_congr h
  | sheet => exact contextAt_congr h
  | definePlane => exact contextAt_congr h
  | clearPlane => exact contextAt_congr h
  | mastLine => exact contextAt_congr h
  | beginShadow => exact contextAt_congr h
  | leaveShadow =>
    have same : (leaveShadow s).oq = s.oq := by rw [leaveShadow_keeps]
    refine contextAt_congr (p := .settled) h ?_ (by rw [leaveShadow_chw]) ?_ ?_ (executingKind_congr (by rw [same])) <;>
      rw [leaveShadow_keeps]

/-! ## The high-water chainage -/

/-- chw is no less than the chainage and the start of the run (R27). -/
theorem highWaterLaw_iff (s : State) :
    HighWaterLaw s ↔ ∀ h, s.cc.chw = some h → chainage s ≤ h ∧ ∀ r, s.lt = some r → r.c0 ≤ h := by
  unfold HighWaterLaw
  cases s.cc.chw with
  | none => simp
  | some h => cases s.lt <;> simp

theorem highWaterLaw_of_none (h : t.cc.chw = none) : HighWaterLaw t := by unfold HighWaterLaw; rw [h]; rfl

theorem highWaterLaw_congr (law : HighWaterLaw s) (chw : t.cc.chw = s.cc.chw := by rfl)
    (acc : t.cc.acc = s.cc.acc := by rfl) (lt : t.lt = s.lt := by rfl) : HighWaterLaw t := by
  have same : chainage t = chainage s := by unfold chainage; rw [acc]
  unfold HighWaterLaw
  rw [chw, same, lt]
  exact law

/-- No high-water chainage stands where no DIG executes. -/
theorem chw_none_of_not_dig (h : ContextLaw s) (kind : executingKind s ≠ some .dig) : s.cc.chw = none := by
  obtain ⟨_, hchw, _⟩ := h
  simpa [kind] using hchw

theorem highWaterLaw_move (m : Move own p s q t) (contexts : ContextAt p s) (law : HighWaterLaw s) : HighWaterLaw t := by
  cases m with
  | quiet h => exact highWaterLaw_congr law h.chw h.acc h.lt
  | drive => exact highWaterLaw_congr (s := s) law
  | cut => exact highWaterLaw_congr (s := s) law
  | driven => exact highWaterLaw_congr (s := s) law
  | startLift => exact highWaterLaw_congr (s := s) law
  | run hr hc =>
    refine (highWaterLaw_iff _).mpr fun high hh => ?_
    obtain ⟨above, start⟩ := (highWaterLaw_iff s).mp law high hh
    refine ⟨above, fun r e => ?_⟩
    cases e
    rw [hc]
    exact start _ hr
  | transfer => rw [rolesPassed_keeps]; exact law
  | makeActive => rw [makeActive_keeps]; exact law
  | travel _ hsome hup htop =>
    refine (highWaterLaw_iff _).mpr fun high' hh => ?_
    obtain ⟨high, hhigh⟩ : ∃ high, s.cc.chw = some high := by
      rw [← Option.isSome_iff_exists, ← hsome]
      exact congrArg Option.isSome hh
    obtain ⟨above, start⟩ := (highWaterLaw_iff s).mp law high hhigh
    exact ⟨htop high high' hhigh hh above, fun r e => Nat.le_trans (start r e) (hup high high' hhigh hh)⟩
  | setting hp =>
    rcases hp with ⟨rfl, noDig⟩ | rfl
    · exact highWaterLaw_of_none (chw_none_of_not_dig (s := s) contexts (not_dig_of_holdsDig noDig))
    · exact highWaterLaw_of_none contexts.2
  | append => rw [appendOperation_keeps]; exact law
  | leave out why hops =>
    obtain ⟨_, _, _, _, hcc, _⟩ := leaveQueue_cons hops out why
    exact highWaterLaw_of_none (by rw [hcc])
  | mark hops => rw [markStarted_cons hops]; exact law
  | place =>
    obtain ⟨⟨lt, _, _⟩, _⟩ := contexts
    refine (highWaterLaw_iff _).mpr fun high hh => ⟨Nat.le_of_eq (Option.some.inj hh), fun r e => ?_⟩
    rw [lt] at e
    cases e
  | startDig hc hc0 =>
    refine (highWaterLaw_iff _).mpr fun high hh => ?_
    have : chainage s = high := Option.some.inj (hc.symm.trans hh)
    subst this
    refine ⟨Nat.le_refl _, fun r e => ?_⟩
    cases e
    exact Nat.le_of_eq hc0
  | power => rfl
  | beginShadow =>
    refine (highWaterLaw_iff _).mpr fun high hh => ?_
    obtain ⟨above, start⟩ := (highWaterLaw_iff s).mp law high hh
    refine ⟨?_, start⟩
    show 1000 * (s.cc.acc / 1000) / 1000 ≤ high
    have : s.cc.acc / 1000 ≤ high := above
    omega
  | leaveShadow _ hops =>
    refine highWaterLaw_of_none ?_
    rw [leaveShadow_chw]
    exact chw_none_of_not_dig contexts (by rw [executingKind_of_nil hops]; exact nofun)
  | _ => exact law

/-- The queue, the contexts and the high-water chainage between two moves. -/
structure ContextsAt (p : Phase) (s : State) : Prop where
  queue : QueueAt p s
  contexts : ContextAt p s
  highWater : HighWaterLaw s

theorem contextsAt_move (m : Move own p s q t) (h : ContextsAt p s) : ContextsAt q t where
  queue := queueAt_move m h.queue
  contexts := contextAt_move m h.queue h.contexts
  highWater := highWaterLaw_move m h.contexts h.highWater

/-- Settles O59: kept together with the queue, move by move. -/
theorem stepKeepsTheContexts : Obligations.StepKeepsTheContexts := fun _ _ queue _ contexts highWater hstep =>
  have kept := step_keeps (law := ContextsAt .settled) (fun ms => law_of_moves contextsAt_move ms)
    (fun _ h => ⟨h.queue, h.contexts, h.highWater⟩) (fun _ _ h => ⟨h.queue, h.contexts, h.highWater⟩)
    ⟨queue, contexts, highWater⟩ hstep
  ⟨kept.contexts, kept.highWater⟩

/-! ## The drive level -/

/-- The drive level lies within the bound of the loop state there is (R70). -/
abbrev driveWithin (s : State) (l : LoopCtx) : Prop :=
  s.gl.v.natAbs ≤ driveBound s.clp.consts l.state ∧ levelBounded s.clp.consts l.state = true

/-- What holds of the drive level between two moves: while this strike's level has yet to be handed on, the loop state is
one whose bound is DRIVE_MAX; while an operation has yet to start, V is 0. -/
def DriveAt : Phase → State → Prop
  | .driving, s => ∃ l, s.gl.loop = some l ∧ ∀ k, driveBound k l.state = k.driveMax ∧ levelBounded k l.state = true
  | .between, s => s.gl.v = 0
  | .starting, s => s.gl.v = 0
  | .placed, s => s.gl.v = 0
  | _, s => DriveLaw s

theorem driveLaw_of_some {l : LoopCtx} (hl : s.gl.loop = some l) : DriveLaw s ↔ driveWithin s l := by
  unfold DriveLaw; rw [hl]

theorem driveLaw_of_none (hl : s.gl.loop = none) :
    DriveLaw s ↔ s.gl.v = 0 ∨ (executingKind s = some .lift ∧ s.gl.v = s.clp.consts.liftDrive) := by
  unfold DriveLaw; rw [hl]

theorem driveLaw_within {l : LoopCtx} (h : driveWithin t l) (hl : t.gl.loop = some l) : DriveAt .settled t :=
  (driveLaw_of_some hl).mpr h

theorem driveLaw_zero (hl : t.gl.loop = none) (hv : t.gl.v = 0) : DriveAt .settled t :=
  (driveLaw_of_none hl).mpr (.inl hv)

/-- V at 0 lies within every bound. -/
theorem driveWithin_zero {l : LoopCtx} (hv : s.gl.v = 0) (h : levelBounded s.clp.consts l.state = true) :
    driveWithin s l := ⟨by rw [hv]; exact Nat.zero_le _, h⟩

/-- The law reads the loop, V, the constants and the kind that executes. -/
theorem driveAt_congr (h : DriveAt p s) (gl : t.gl = s.gl := by rfl) (consts : t.clp.consts = s.clp.consts := by rfl)
    (kind : executingKind t = executingKind s := by rfl) : DriveAt p t := by
  cases p with
  | driving => obtain ⟨l, hl, hst⟩ := h; exact ⟨l, (congrArg (·.loop) gl).trans hl, hst⟩
  | between => exact (show t.gl.v = s.gl.v by rw [gl]).trans h
  | starting => exact (show t.gl.v = s.gl.v by rw [gl]).trans h
  | placed => exact (show t.gl.v = s.gl.v by rw [gl]).trans h
  | _ =>
    show DriveLaw t
    unfold DriveLaw
    rw [gl, consts, kind]
    exact h

theorem levelBounded_atSetting (k : Constants) (c : Nat) (st : LoopState) :
    levelBounded k (loopAtSetting c st) = levelBounded k st := by cases st <;> rfl

theorem driveBound_atSetting (k : Constants) (c : Nat) (st : LoopState) :
    driveBound k (loopAtSetting c st) = driveBound k st := by cases st <;> rfl

theorem driveLaw_setting (c : Nat) (h : DriveLaw s) : DriveLaw (setTheChainage c s) := by
  cases hl : s.gl.loop with
  | none =>
    rw [driveLaw_of_none hl] at h
    refine (driveLaw_of_none (congrArg (Option.map _) hl)).mpr ?_
    rw [executingKind_setTheChainage]
    exact h
  | some l =>
    rw [driveLaw_of_some hl] at h
    refine (driveLaw_of_some (l := { l with state := loopAtSetting c l.state }) (congrArg (Option.map _) hl)).mpr ?_
    unfold driveWithin
    rw [driveBound_atSetting, levelBounded_atSetting]
    exact h

/-- A change of the loop context that leaves the bounds alone. -/
theorem driveAt_loop {l l' : LoopCtx} (hl : s.gl.loop = some l) (step : LoopStep l l') (h : DriveAt p s) :
    DriveAt p { s with gl := { s.gl with loop := some l' } } := by
  cases p with
  | driving =>
    obtain ⟨x, hx, bounds⟩ := h
    obtain rfl : l = x := Option.some.inj (hl.symm.trans hx)
    exact ⟨l', rfl, fun k => ⟨(step.bound k).trans (bounds k).1, step.level k (bounds k).2⟩⟩
  | between => exact h
  | starting => exact h
  | placed => exact h
  | _ =>
    obtain ⟨within, level⟩ := (driveLaw_of_some hl).mp h
    refine driveLaw_within (l := l') ⟨?_, step.level _ level⟩ ?_
    · rw [step.bound]
      exact within
    · rfl

/-- Nothing executes and no loop stands: V is 0. -/
theorem v_zero_of_idle (contexts : ContextLaw s) (kind : executingKind s = none) (h : DriveLaw s) :
    s.gl.loop = none ∧ s.gl.v = 0 := by
  obtain ⟨⟨_, loop, _⟩, _⟩ := (contextLaw_iff_of_none kind).mp contexts
  refine ⟨loop, ?_⟩
  rcases (driveLaw_of_none loop).mp h with h | ⟨lift, _⟩
  · exact h
  · rw [kind] at lift; cases lift

theorem driveAt_append {op : Operation} (hw : op.state = .waiting) (contexts : ContextLaw s) (h : DriveLaw s) :
    DriveAt (if s.oq.ops.isEmpty then .between else .settled) (appendOperation op s) := by
  have same : (appendOperation op s).gl = s.gl := by rw [appendOperation_keeps]
  split
  next hempty =>
    have hops := List.isEmpty_iff.mp hempty
    exact (congrArg (·.v) same).trans (v_zero_of_idle contexts (executingKind_of_nil hops) h).2
  · exact driveAt_congr (p := .settled) h same (by rw [appendOperation_keeps]) (executingKind_append hw)

theorem driveLaw_idle (hops : s.oq.ops = []) (hp : p = .settled ∨ p = .between) (contexts : ContextAt p s)
    (h : DriveAt p s) : DriveLaw (idleSequencer s) := by
  rcases hp with rfl | rfl
  · exact driveAt_congr (p := .settled) h
  · obtain ⟨⟨_, loop, _⟩, _⟩ := (contextLaw_iff_of_none (executingKind_of_nil hops)).mp contexts
    exact (driveLaw_of_none (s := idleSequencer s) loop).mpr (.inl h)

theorem driveAt_leave {op : Operation} {rest : List Operation} (hops : s.oq.ops = op :: rest) (out : OpOutcome)
    (why : OpReason) (p : Phase) : DriveAt (leftPhase p) (leaveQueue out why s) := by
  obtain ⟨_, hgl, _⟩ := leaveQueue_cons hops out why
  have law : DriveLaw (leaveQueue out why s) := (driveLaw_of_none (by rw [hgl])).mpr (.inl (by rw [hgl]))
  have zero : (leaveQueue out why s).gl.v = 0 := by rw [hgl]
  cases p with
  | faulting => exact law
  | _ => exact zero

/-- A cut to 0 (R93). -/
theorem driveLaw_cut (h : DriveLaw s) : DriveLaw (handOn 0 s) := by
  cases hl : s.gl.loop with
  | none => exact (driveLaw_of_none (s := handOn 0 s) hl).mpr (.inl rfl)
  | some l => exact (driveLaw_of_some (s := handOn 0 s) hl).mpr (driveWithin_zero rfl ((driveLaw_of_some hl).mp h).2)

theorem driveAt_move (m : Move own p s q t) (contexts : ContextAt p s) (h : DriveAt p s) : DriveAt q t := by
  cases m with
  | quiet hq => exact driveAt_congr h hq.gl (by rw [hq.clp]) (executingKind_of_core hq.ops)
  | port c hc => exact driveAt_congr h rfl hc.consts
  | loop hl step => exact driveAt_loop hl step h
  | @drive _ l v st hl within =>
    obtain ⟨_, level⟩ := (driveLaw_of_some hl).mp h
    refine (driveLaw_of_some (l := { l with state := st }) ?_).mpr (within level)
    rw [handOn_gl, setLoopState_eq hl]
  | @track _ l due _ within => 
    refine driveLaw_within (l := { l with state := .tracking due }) ⟨within, ?_⟩ ?_ <;> rfl
  | cut => exact driveLaw_cut h
  | seen hl => exact ⟨_, rfl, fun _ => ⟨rfl, rfl⟩⟩
  | driven _ within =>
    obtain ⟨l, hl, bounds⟩ := h
    refine driveLaw_within (l := l) ⟨?_, (bounds _).2⟩ ?_
    · rw [(bounds _).1]
      exact within
    · exact hl
  | run => exact driveAt_congr h
  | tie => exact driveAt_congr h
  | endTie => exact driveAt_congr h
  | startTie => exact driveAt_congr h
  | transfer => rw [rolesPassed_keeps]; exact driveAt_congr h
  | makeActive => rw [makeActive_keeps]; exact driveAt_congr h
  | restPlanes => exact driveAt_congr h
  | travel => exact driveAt_congr h
  | setting hp =>
    rcases hp with ⟨rfl, _⟩ | rfl
    · exact driveLaw_setting _ h
    · exact h
  | append hw => exact driveAt_append hw contexts h
  | leave out why hops => exact driveAt_leave hops out why p
  | mark hops => rw [markStarted_cons hops]; exact h
  | idle hp hops => exact driveLaw_idle hops hp contexts h
  | place => exact h
  | @startDig _ _ l _ _ _ _ hst =>
    refine driveLaw_within (l := l) (driveWithin_zero ?_ (by rw [hst]; rfl)) ?_
    · exact h
    · rfl
  | @startLoop _ l _ hst =>
    refine driveLaw_within (l := l) (driveWithin_zero ?_ (by rw [hst]; rfl)) ?_
    · exact h
    · rfl
  | startLift hk =>
    exact (driveLaw_of_none (s := handOn s.clp.consts.liftDrive s) contexts.1.loop).mpr (.inr ⟨hk, rfl⟩)
  | startDwell => exact (driveLaw_of_none contexts.1.loop).mpr (.inl h)
  | fault => exact driveAt_congr (p := .settled) h
  | faulted => exact driveAt_congr (p := .settled) h
  | clearFault => exact driveAt_congr h
  | power => exact .inl rfl
  | @setConst _ c value _ free =>
    have hops : s.oq.ops = [] := by
      unfold constantsHeld at free
      simp at free
      exact free.1.1
    obtain ⟨loop, zero⟩ := v_zero_of_idle contexts (executingKind_of_nil hops) h
    refine driveLaw_zero ?_ ?_
    · exact loop
    · exact zero
  | enables => exact driveAt_congr h
  | sheet => exact driveAt_congr h
  | definePlane => exact driveAt_congr h
  | clearPlane => exact driveAt_congr h
  | mastLine => exact driveAt_congr h
  | beginShadow => exact driveAt_congr h
  | leaveShadow =>
    have same : (leaveShadow s).oq = s.oq := by rw [leaveShadow_keeps]
    refine driveAt_congr (p := .settled) h ?_ ?_ (executingKind_congr (by rw [same])) <;> rw [leaveShadow_keeps]

/-- The queue, the contexts and the drive level between two moves. -/
structure DrivesAt (p : Phase) (s : State) : Prop where
  queue : QueueAt p s
  contexts : ContextAt p s
  drive : DriveAt p s

theorem drivesAt_move (m : Move own p s q t) (h : DrivesAt p s) : DrivesAt q t where
  queue := queueAt_move m h.queue
  contexts := contextAt_move m h.queue h.contexts
  drive := driveAt_move m h.contexts h.drive

/-- Settles O60: kept together with the queue and the contexts, move by move. -/
theorem stepKeepsTheDriveBounded : Obligations.StepKeepsTheDriveBounded := fun _ _ _ queue contexts drive hstep =>
  (step_keeps (law := DrivesAt .settled) (fun ms => law_of_moves drivesAt_move ms)
    (fun _ h => ⟨h.queue, h.contexts, h.drive⟩) (fun _ _ h => ⟨h.queue, h.contexts, h.drive⟩)
    ⟨queue, contexts, drive⟩ hstep).drive

end Sys2Proof.Proofs
end

section
/-! The step and the reset, a firing (R188, R189), the first sampling (R171), the mast line (R5 to R11), the taking of a
strike (R13 to R17) and DEFINE_PLANE (R19). -/

namespace Sys2Proof.Proofs

open Sys2Proof.Machine Sys2Proof.Safety Sys2Proof.Laws

/-! ## The step and the reset -/

/-- Settles O1. -/
theorem stepRunsTheFrontCommand : Obligations.StepRunsTheFrontCommand := fun _ _ _ => rfl

theorem step_of_noneWaiting {s : State} (hp : s.pending = []) :
    step s = match requestTaken s with
      | some c => exec c s
      | none => .next (tickClock s) := by
  unfold step
  split
  next c rest h => rw [hp] at h; cases h
  next => rfl

theorem step_of_noneInHand {s : State} (hp : s.pending = []) (hh : s.clp.inHand = []) :
    step s = .next { s with clock := s.clock + 1 } := by
  have none : requestTaken s = none := by unfold requestTaken; rw [hh]; rfl
  rw [step_of_noneWaiting hp, none]
  rfl

theorem step_of_inHand {s : State} {r : Received} {l : List Received} (hp : s.pending = []) (hh : s.clp.inHand = r :: l) :
    step s = exec r.command s := by
  have taken : requestTaken s = some r.command := by unfold requestTaken; rw [hh]; rfl
  rw [step_of_noneWaiting hp, taken]

/-- Settles O2. -/
theorem emptyQueueTakesARequestOrAMillisecond : Obligations.EmptyQueueTakesARequestOrAMillisecond :=
  ⟨fun _ => step_of_noneInHand, fun _ _ _ => step_of_inHand⟩

theorem entryAt_reset (i : Fin 8) : entryAt State.reset i = PlaneEntry.cleared := by
  revert i; decide

theorem sheetAt_reset (n : Fin 6) : sheetAt State.reset n = { body := .empty, inUse := 0 } := by
  revert n; decide

/-- Settles O4: the fields of the reset state. -/
theorem resetValues : Obligations.ResetValues :=
  ⟨rfl, rfl, rfl, entryAt_reset, sheetAt_reset, rfl, rfl, rfl, rfl, rfl, rfl, rfl, rfl, rfl, rfl, rfl, rfl, rfl, rfl, rfl,
    rfl, rfl, rfl, rfl, rfl, rfl, rfl, rfl, rfl, rfl, rfl, rfl, rfl, rfl, rfl⟩

/-- Settles O5: the laws are decidable statements about the one reset state. -/
theorem resetHoldsTheLaws : Obligations.ResetHoldsTheLaws := by
  refine ⟨constantsLaw_defaults rfl, ?_, ?_, ?_, ?_, ?_, ?_, ?_, ?_, ?_, ?_, ?_, .inl rfl, ?_⟩ <;> decide

/-! ## Firing -/

theorem inMask_false {m : Mask} {n : Nat} (h : m.getLsbD n = false) : ¬ inMask m n = true := by
  unfold inMask; rw [h]; exact nofun

theorem fireIn_of_disabled {e : Event} {p : Clp} (h : p.enables.getLsbD (eventNumber e) = false) (time : Time) (c : Nat) :
    fireIn e time c p = { p with flags := p.flags ||| (1#16 <<< eventNumber e) } := if_neg (inMask_false h)

theorem fireIn_of_enabled {e : Event} {p : Clp} (h : p.enables.getLsbD (eventNumber e) = true) (time : Time) (c : Nat) :
    fireIn e time c p = offerReport e time c { p with flags := p.flags ||| (1#16 <<< eventNumber e) } := if_pos h

theorem offerReport_of_room {p : Clp} (h : p.reports.length < 8) (e : Event) (time : Time) (c : Nat) :
    offerReport e time c p = { p with
      reports := p.reports ++ [{ event := e, seqNo := p.seqNo, time := time, chainage := c }]
      seqNo := p.seqNo + 1 } := if_pos h

theorem offerReport_of_full {p : Clp} (h : 8 ≤ p.reports.length) (e : Event) (time : Time) (c : Nat) :
    offerReport e time c p = { p with
      counters := { p.counters with reportLost := countOne p.counters.reportLost } } := if_neg (Nat.not_lt.mpr h)

/-- Settles O7. -/
theorem firingAppendsARecord : Obligations.FiringAppendsARecord := by
  refine ⟨fun e time c p => ⟨fun off => fireIn_of_disabled off time c, fun on room => ?_, fun on full => ?_⟩, ?_⟩
  · exact (fireIn_of_enabled on time c).trans (offerReport_of_room (by exact room) e time c)
  · exact (fireIn_of_enabled on time c).trans (offerReport_of_full (by exact full) e time c)
  · intros; rfl

/-! ## The first sampling -/

theorem strokeInRange_iff (x : Int) : strokeInRange x = true ↔ 0 ≤ x ∧ x ≤ 1000 := by
  simp [strokeInRange]

theorem strokeInRange_of_out {x : Int} (h : x < 0 ∨ 1000 < x) : strokeInRange x = false := by
  rw [Bool.eq_false_iff, Ne, strokeInRange_iff]
  omega

/-- A coil that is not driven is checked by its path alone, and a first reading declares nothing (R163). -/
theorem coilFault_undriven {old : Coil} (h : old.openCount ≠ 2) (c : CoilSense) (broken short : FaultCause) :
    coilFault 0 c old broken short = [] := by
  have none : declares (checkResult 0 c) old = false := by
    cases hc : c.path <;> simp [declares, checkResult, hc, h]
  unfold coilFault
  dsimp only
  rw [none]
  rfl

/-- With no reading out of range and no coil broken nothing is declared (R163, R164). -/
theorem tickFaults_undriven {o : Os} (raise : o.raiseDuty = 0) (lower : o.lowerDuty = 0) (r : Readings)
    (hr : o.raise.openCount ≠ 2) (hl : o.lower.openCount ≠ 2) :
    tickFaults r o = if strokeInRange (strokeReading r.stroke) then [] else [.fault .strokeRange (strokeReading r.stroke)] := by
  unfold tickFaults
  rw [raise, lower, coilFault_undriven hr, coilFault_undriven hl, List.append_nil, List.append_nil]

/-- At rest the stroke handed on meets no limit and completes nothing. -/
theorem strokeActs_at_rest {s : State} (v : s.gl.v = 0) (reach : s.oq.pause.reach = false) (ops : s.oq.ops = []) :
    strokeActs s = false := by
  simp [strokeActs, limitOf, v, reach, lifting, executing, ops]

/-- What the first sampling takes (R171). -/
theorem tickItems_powered (a0 a1 : Bool) (w : WheelPair) (r : Readings) (s : State) :
    tickItems r (powered a0 a1 w s) (takeSamples r (powered a0 a1 w s))
      = if strokeInRange (strokeReading r.stroke) then [] else [.fault .strokeRange (strokeReading r.stroke)] := by
  unfold tickItems
  rw [strokeActs_at_rest rfl rfl rfl, Bool.and_false]
  exact tickFaults_undriven rfl rfl r (show 0 ≠ 2 by decide) (show 0 ≠ 2 by decide)

theorem sampleOutputs_powered_sound (a0 a1 : Bool) (w : WheelPair) (r : Readings) (s : State)
    (inRange : strokeInRange (strokeReading r.stroke) = true) :
    sampleOutputs r (powered a0 a1 w s) = formPermit (takeSamples r (powered a0 a1 w s)) := by
  unfold sampleOutputs
  dsimp only
  rw [tickItems_powered, if_pos inRange, takeItems_nil]

/-- A stroke out of range at the first sampling declares the fault on a part at rest (R159, R171). -/
theorem sampleOutputs_powered_faulted (a0 a1 : Bool) (w : WheelPair) (r : Readings) (s : State)
    (out : strokeInRange (strokeReading r.stroke) = false) :
    sampleOutputs r (powered a0 a1 w s)
      = formPermit (declareFault .strokeRange (strokeReading r.stroke) (takeSamples r (powered a0 a1 w s))) := by
  unfold sampleOutputs
  dsimp only
  rw [tickItems_powered, out]
  rfl

/-- A fault declared while nothing is held and no tie is in flight (R166). -/
theorem declareFault_at_rest {s : State} (sound : s.os.faulted = false) (ops : s.oq.ops = []) (tie : s.te.tie = none)
    (cause : FaultCause) (reading : Int) :
    declareFault cause reading s =
      let s1 := fire (.fault (faultNow cause reading s))
        (formPermit { s with os := faultedOutputs (faultNow cause reading s) s.os })
      { s1 with oq := { s1.oq with seq := .faulted } } := by
  unfold declareFault
  rw [if_neg (by rw [sound]; exact nofun)]
  dsimp only
  rw [emptyQueue_of_nil (by exact ops)]
  exact endTie_of_none (by exact tie) _ _

/-- The samples of a part just powered on, with sound wiring and a stroke in range (R163 to R165). -/
theorem takeSamples_powered (a0 a1 : Bool) (w : WheelPair) (r : Readings) (s : State)
    (inRange : strokeInRange (strokeReading r.stroke) = true) (raise : r.raise.path = true) (lower : r.lower.path = true) :
    takeSamples r (powered a0 a1 w s) = { powered a0 a1 w s with os := { State.reset.os with
        stroke := (strokeReading r.stroke).toNat
        tilt := tiltReading r.tilt
        raise := { openCount := 0, latest := .good }
        lower := { openCount := 0, latest := .good } } } := by
  simp [takeSamples, sampledOutputs, powered, State.reset, checkResult, raise, lower, checkedCoil, openHealth, inRange]

/-- Settles O6: the two outcomes of the first sampling. -/
theorem powerOn : Obligations.PowerOn := by
  intro a0 a1 w r s
  refine ⟨fun least most raise lower => ?_, fun out => ⟨_, rfl, ?_⟩⟩
  · have inRange := (strokeInRange_iff _).mpr ⟨least, most⟩
    show Host.Outcome.next (sampleOutputs r (powered a0 a1 w s)) = _
    rw [sampleOutputs_powered_sound a0 a1 w r s inRange, takeSamples_powered a0 a1 w r s inRange raise lower]
    rfl
  · have inRange := strokeInRange_of_out out
    rw [sampleOutputs_powered_faulted a0 a1 w r s inRange, declareFault_at_rest rfl rfl rfl]
    refine ⟨rfl, rfl, rfl, rfl, (fireIn_flags _ _ _ _).trans (by exact BitVec.zero_or), ?_, rfl⟩
    show (if strokeInRange (strokeReading r.stroke) then _ else _) = 0
    rw [inRange]
    rfl

end Sys2Proof.Proofs
end

section
/-! The mast line: a character in COLLECTING (R5 to R10) and MAST_LINE (R11); the taking of a strike (R13 to R17);
DEFINE_PLANE (R19). -/

namespace Sys2Proof.Proofs

open Sys2Proof.Machine Sys2Proof.Safety Sys2Proof.Laws

/-! ## Counting on the mast line -/

theorem countOne_ne_iff (n : Nat) : (countOne n ≠ n ∧ countOne n % 16 = 0) ↔ (n < 65535 ∧ (n + 1) % 16 = 0) := by
  unfold countOne
  by_cases h : n < 65535
  · simp [h]
  · simp [h]

/-- LINE fires when a count has risen to a multiple of 16 (R9). -/
theorem fireLineAt_eq (which : LineCounter) (n : Nat) (s : State) :
    fireLineAt which n (countOne n) s = { s with
      clp := if n < 65535 ∧ (n + 1) % 16 = 0 then fireIn (.line (.mastLine which)) s.clock (chainage s) s.clp
             else s.clp } := by
  unfold fireLineAt
  by_cases h : n < 65535 ∧ (n + 1) % 16 = 0
  · rw [if_pos h, if_pos ((countOne_ne_iff n).mpr h)]; rfl
  · rw [if_neg h, if_neg (mt (countOne_ne_iff n).mp h)]

/-- The port once DAMAGED has counted one (R9). -/
def damagedClp (s : State) : Clp :=
  let n := s.clp.counters.damaged
  let damaged : Clp := { s.clp with counters := { s.clp.counters with damaged := countOne n } }
  if n < 65535 ∧ (n + 1) % 16 = 0 then fireIn (.line (.mastLine .damaged)) s.clock (chainage s) damaged else damaged

/-- The port once OVERRUN has counted one (R9). -/
def overrunClp (s : State) : Clp :=
  let n := s.clp.counters.overrun
  let overrun : Clp := { s.clp with counters := { s.clp.counters with overrun := countOne n } }
  if n < 65535 ∧ (n + 1) % 16 = 0 then fireIn (.line (.mastLine .overrun)) s.clock (chainage s) overrun else overrun

theorem countDamaged_eq (s : State) : countDamaged s = { s with clp := damagedClp s } := fireLineAt_eq .damaged _ _

theorem countOverrun_eq (s : State) : countOverrun s = { s with clp := overrunClp s } := fireLineAt_eq .overrun _ _

/-! ## The frame assembler in COLLECTING -/

variable {s : State} {bytes : List Byte} {due : Time}

theorem takeMastByte_marked (collecting : s.mlr.rx = .collecting bytes due) (data : Byte) :
    takeMastByte data true s = countDamaged (setMastRx .hunting s) := by
  simp [takeMastByte, collecting]

theorem takeMastByte_clean (collecting : s.mlr.rx = .collecting bytes due) (data : Byte) :
    takeMastByte data false s = collectMastByte data bytes s := by
  simp [takeMastByte, collecting]

theorem collectMastByte_short (h : bytes.length < 5) (data : Byte) (s : State) :
    collectMastByte data bytes s = setMastRx (.collecting (bytes ++ [data]) (s.clock + 2)) s :=
  if_pos (by rw [List.length_append]; exact Nat.succ_lt_succ h)

theorem collectMastByte_checked {sig first last status data : Byte} (h : data = ~~~(sig + first + last + status))
    (sync : Byte) (s : State) :
    collectMastByte data [sync, sig, first, last, status] s
      = goodStrikeFrame sig first last status (setMastRx .hunting s) := if_pos h

theorem collectMastByte_unchecked {sig first last status data : Byte} (h : data ≠ ~~~(sig + first + last + status))
    (sync : Byte) (s : State) :
    collectMastByte data [sync, sig, first, last, status] s = countDamaged (setMastRx .hunting s) := if_neg h

theorem goodStrikeFrame_masked (h : s.sm ≠ none) (sig first last status : Byte) :
    goodStrikeFrame sig first last status s = countShadowMasked s := if_pos (Option.isSome_iff_ne_none.mpr h)

/-- The strike a good frame spells, stamped as it completes (R7). -/
abbrev stamped (sig first last status : Byte) (s : State) : Strike :=
  { sig := sig, first := first, last := last, status := status, chainage := chainage s, time := s.clock, generated := false }

theorem goodStrikeFrame_real (h : s.sm = none) (sig first last status : Byte) :
    goodStrikeFrame sig first last status s = offerStrike (stamped sig first last status s) s :=
  if_neg (by rw [h]; exact nofun)

theorem offerStrike_empty (h : s.mlr.slot = none) (x : Strike) : offerStrike x s = setSlot (some x) s :=
  if_neg (by rw [h]; exact nofun)

theorem offerStrike_full (h : s.mlr.slot ≠ none) (x : Strike) : offerStrike x s = countOverrun (setSlot (some x) s) :=
  if_pos (Option.isSome_iff_ne_none.mpr h)

theorem exec_mastGapTimerExpiry (collecting : s.mlr.rx = .collecting bytes due) :
    exec .mastGapTimerExpiry s = .next (countDamaged (setMastRx .hunting s)) := by
  simp [exec, execMastGapTimerExpiry, collecting]

/-- Settles O9: the mark, the length and the check taken apart; each outcome is one equation of the frame assembler. -/
theorem mastByteInCollecting : Obligations.MastByteInCollecting := by
  intro data parity stop bytes due s on collecting n damaged discarded
  have taken := exec_mastByte_of_lineOn data parity stop on
  have clean : ∀ l, bytes = l → marked data parity stop = false →
      exec (.mastByte data parity stop) s = .next (collectMastByte data l s) := fun l hl hm => by
    subst hl
    rw [taken, hm, takeMastByte_clean collecting]
  have discards : countDamaged (setMastRx .hunting s) = discarded := countDamaged_eq _
  refine ⟨fun hm short => ?_, fun hm => ?_, ?_, fun sync sig first last status hb hm wrong => ?_,
    fun sync sig first last status hb hm right => ⟨fun real empty => ?_, fun real full => ?_, fun shadow => ?_⟩⟩
  · rw [clean bytes rfl hm, collectMastByte_short short]
    rfl
  · rw [taken, hm, takeMastByte_marked collecting, discards]
  · rw [exec_mastGapTimerExpiry collecting, discards]
  · rw [clean _ hb hm, collectMastByte_unchecked wrong, discards]
  · rw [clean _ hb hm, collectMastByte_checked right, goodStrikeFrame_real (by exact real),
      offerStrike_empty (by exact empty)]
    rfl
  · rw [clean _ hb hm, collectMastByte_checked right, goodStrikeFrame_real (by exact real),
      offerStrike_full (by exact full), countOverrun_eq]
    rfl
  · rw [clean _ hb hm, collectMastByte_checked right, goodStrikeFrame_masked (by exact shadow)]
    rfl

/-! ## MAST_LINE -/

theorem markOf_eq_none {n : Nat} (h : 2 ≤ n) : markOf n = none := by
  match n, h with
  | _ + 2, _ => rfl

theorem exec_mastLine_of_mark {setting : Nat} {on : Bool} (h : markOf setting = some on) (tag : Nat) (s : State) :
    exec (.mastLine tag setting) s = .next (answer .mastLine tag .ok .none (setMastLine on s)) := by
  simp [exec, execMastLine, h]

theorem exec_mastLine_of_no_mark {setting : Nat} (h : markOf setting = none) (tag : Nat) (s : State) :
    exec (.mastLine tag setting) s = .next (refuse .mastLine tag .badValue s) := by
  simp [exec, execMastLine, h]

theorem setMastLine_on_of_on (h : s.mlr.lineOn = true) : setMastLine true s = s := if_pos h

theorem setMastLine_on_of_off (h : s.mlr.lineOn = false) :
    setMastLine true s = { s with mlr := { s.mlr with lineOn := true, rx := .hunting } } := by
  simp [setMastLine, h]

/-- Settles O10. -/
theorem mastLineOffAndOn : Obligations.MastLineOffAndOn := by
  intro tag s
  refine ⟨rfl, fun on => ?_, fun off => ?_, fun setting h => exec_mastLine_of_no_mark (markOf_eq_none h) tag s⟩
  · rw [exec_mastLine_of_mark (on := true) rfl, setMastLine_on_of_on on]
  · rw [exec_mastLine_of_mark (on := true) rfl, setMastLine_on_of_off off]

/-! ## Validation -/

theorem validate_of_span {x : Strike} (h : x.status = 0) :
    validate x = if x.last.toNat < x.first.toNat ∨ 95 < x.last.toNat ∨ 12 < x.last.toNat - x.first.toNat + 1 then none
      else some (.inWindow ((x.first.toNat : Int) + (x.last.toNat : Int) - 95)) := by
  unfold validate; rw [h]; rfl

theorem validate_of_above {x : Strike} (h : x.status = 1) : validate x = some .above := by
  unfold validate; rw [h]; rfl

theorem validate_of_below {x : Strike} (h : x.status = 2) : validate x = some .below := by
  unfold validate; rw [h]; rfl

theorem validate_of_split {x : Strike} (h : x.status = 3) : validate x = some .split := by
  unfold validate; rw [h]; rfl

theorem validate_of_uncoded {x : Strike} (h : 3 < x.status.toNat) : validate x = none := by
  unfold validate
  split
  next h0 => omega
  next h1 => omega
  next h2 => omega
  next h3 => omega
  next => rfl

/-- An IN_WINDOW strike is one whose span lies on the cells (R13, R14). -/
theorem validate_inWindow_iff (x : Strike) (b : Int) :
    validate x = some (.inWindow b) ↔ x.status = 0 ∧ x.first.toNat ≤ x.last.toNat ∧ x.last.toNat ≤ 95
      ∧ x.last.toNat - x.first.toNat + 1 ≤ 12 ∧ b = (x.first.toNat : Int) + (x.last.toNat : Int) - 95 := by
  by_cases h0 : x.status = 0
  · rw [validate_of_span h0]
    constructor
    · intro h
      split at h
      · cases h
      next span =>
        have : (x.first.toNat : Int) + (x.last.toNat : Int) - 95 = b := by simpa using h
        exact ⟨h0, by omega, by omega, by omega, this.symm⟩
    · intro ⟨_, ordered, onCells, narrow, hb⟩
      rw [if_neg (by omega), hb]
  · refine ⟨fun h => ?_, fun h => absurd h.1 h0⟩
    have notZero : x.status.toNat ≠ 0 := fun e => h0 (BitVec.eq_of_toNat_eq e)
    unfold validate at h
    split at h
    next e => exact absurd e notZero
    all_goals cases h

/-! ## STRIKE_TAKE -/

theorem exec_strikeTake {x : Strike} (slot : s.mlr.slot = some x) (idle : qualifierIdle s = true) :
    exec .strikeTake s = .next (qualify x (setSlot none s)) := by
  simp [exec, execStrikeTake, slot, idle]

theorem qualify_rejected {x : Strike} (h : validate x = none) (s : State) : qualify x s = countRejected s := by
  unfold qualify; rw [h]

theorem qualify_accepted {x : Strike} {beam : Beam} (h : validate x = some beam) (s : State) :
    qualify x s = matchStrike x beam s := by
  unfold qualify; rw [h]

theorem matchStrike_foreign {x : Strike} (h : matchingEntry s x.sig.toNat = none) (beam : Beam) :
    matchStrike x beam s = foreignStrike s := by
  unfold matchStrike; rw [h]

theorem matchStrike_matched {x : Strike} {i : Fin 8} (h : matchingEntry s x.sig.toNat = some i) (beam : Beam) :
    matchStrike x beam s
      = routeStrike (qualified x i beam) (modifyEntry i (recordStrike (qualified x i beam)) s) := by
  unfold matchStrike; rw [h]

theorem foreignStrike_latched (h : s.sq.foreignLatch = true) : foreignStrike s = countForeign s := if_pos h

theorem foreignStrike_unlatched (h : s.sq.foreignLatch = false) :
    foreignStrike s = fire (.line .foreign) { countForeign s with sq := { s.sq with foreignLatch := true } } :=
  if_neg (by rw [h]; exact nofun)

/-- Settles O11. -/
theorem strikeTakeValidatesAndDrops : Obligations.StrikeTakeValidatesAndDrops := by
  refine ⟨fun x b => ⟨validate_inWindow_iff x b, fun h => ?_, fun h0 off => ?_, validate_of_above, validate_of_below,
    validate_of_split, validate_of_uncoded⟩, fun x s slot idle => ?_⟩
  · obtain ⟨_, _, _, _, hb⟩ := (validate_inWindow_iff x b).mp h
    omega
  · rw [validate_of_span h0, if_pos (by omega)]
  rw [exec_strikeTake slot idle]
  refine ⟨fun rejected => ?_, fun beam accepted foreign latched => ?_, fun beam accepted foreign unlatched => ?_⟩
  · rw [qualify_rejected rejected]; rfl
  · rw [qualify_accepted accepted, matchStrike_foreign (by exact foreign), foreignStrike_latched (by exact latched)]; rfl
  · rw [qualify_accepted accepted, matchStrike_foreign (by exact foreign), foreignStrike_unlatched (by exact unlatched)]; rfl

/-! ## Routing -/

/-- Where a strike of the ACTIVE entry goes reads the kind that executes and the phase of the run (R17). -/
theorem activeRoute_eq (s : State) :
    activeRoute s = match executingKind s with
      | some .dig => (runPhase s).elim .nowhere fun p => if p = .benching then .bench else .loop
      | some .plunge => .loop
      | some .hold => .loop
      | _ => .nowhere := by
  unfold activeRoute executingKind
  cases executing s with
  | none => rfl
  | some x =>
    obtain ⟨op, info⟩ := x
    cases hp : op.params with
    | dig n k0 e c0 => cases hl : s.lt <;> simp [kindOf, runPhase, hp, hl]
    | _ => simp [kindOf, hp]

/-- The blocks a strike is handed to, by the role of its entry (R17). -/
def routedTo (q : QStrike) (s : State) : Sq :=
  match (entryAt s q.entry).role with
  | .active =>
    let copy := if tieState s = .collecting then some (TieStream.active, q) else none
    match activeRoute s with
    | .bench => { s.sq with toBench := some q, toTie := copy }
    | .loop => { s.sq with toLoop := some q, toTie := copy }
    | .nowhere => { s.sq with toTie := copy }
  | .candidate => { s.sq with toTie := some (.candidate, q) }
  | _ => s.sq

theorem routeStrike_eq (q : QStrike) (s : State) : routeStrike q s = { s with sq := routedTo q s } := by
  unfold routeStrike routedTo
  cases (entryAt s q.entry).role with
  | active => dsimp only; cases activeRoute s <;> rfl
  | _ => rfl

theorem routedTo_latch (q : QStrike) (s : State) : (routedTo q s).foreignLatch = s.sq.foreignLatch := by
  unfold routedTo
  cases (entryAt s q.entry).role with
  | active => dsimp only; cases activeRoute s <;> rfl
  | _ => rfl

theorem qualifierIdle_iff (s : State) :
    qualifierIdle s = true ↔ s.sq.toLoop = none ∧ s.sq.toBench = none ∧ s.sq.toTie = none := by
  simp [qualifierIdle, and_assoc]

variable {q : QStrike}

theorem routedTo_candidate (h : (entryAt s q.entry).role = .candidate) :
    routedTo q s = { s.sq with toTie := some (.candidate, q) } := by
  unfold routedTo; rw [h]

theorem routedTo_idle (h : (entryAt s q.entry).role = .standby ∨ (entryAt s q.entry).role = .retired) :
    routedTo q s = s.sq := by
  unfold routedTo; rcases h with h | h <;> rw [h]

/-- The Tie Engine's copy of a strike of the ACTIVE entry (R17). -/
theorem routedTo_active_toTie (h : (entryAt s q.entry).role = .active) :
    (routedTo q s).toTie = if tieState s = .collecting then some (.active, q) else none := by
  unfold routedTo; rw [h]; dsimp only; cases activeRoute s <;> rfl

theorem routedTo_bench (h : (entryAt s q.entry).role = .active) (route : activeRoute s = .bench) :
    (routedTo q s).toLoop = s.sq.toLoop ∧ (routedTo q s).toBench = some q := by
  unfold routedTo; rw [h, route]; exact ⟨rfl, rfl⟩

theorem routedTo_loop (h : (entryAt s q.entry).role = .active) (route : activeRoute s = .loop) :
    (routedTo q s).toLoop = some q ∧ (routedTo q s).toBench = s.sq.toBench := by
  unfold routedTo; rw [h, route]; exact ⟨rfl, rfl⟩

theorem routedTo_nowhere (h : (entryAt s q.entry).role = .active) (route : activeRoute s = .nowhere) :
    (routedTo q s).toLoop = s.sq.toLoop ∧ (routedTo q s).toBench = s.sq.toBench := by
  unfold routedTo; rw [h, route]; exact ⟨rfl, rfl⟩

/-- Settles O12: the entry's update, then the route by its role and by what executes. -/
theorem strikeTakeRecordsAndRoutes : Obligations.StrikeTakeRecordsAndRoutes := by
  intro x i beam s slot idle accepted matched
  obtain ⟨noLoop, noBench, noTie⟩ := (qualifierIdle_iff s).mp idle
  let u := modifyEntry i (recordStrike (qualified x i beam)) (setSlot none s)
  have entry : entryAt u i = recordStrike (qualified x i beam) (entryAt s i) := entryAt_modifyEntry_same i _ _
  have role : (entryAt u (qualified x i beam).entry).role = (entryAt s i).role := by
    show (entryAt u i).role = _
    rw [entry]
    rfl
  have route : activeRoute u = activeRoute s := rfl
  refine ⟨{ u with sq := routedTo (qualified x i beam) u }, ?_, rfl, routedTo_latch _ u, entry,
    fun j hj => entryAt_modifyEntry_of_ne hj _ _, fun h => ?_, fun h => ?_, fun h => ⟨?_, fun dig benching => ?_,
    fun p dig phase other => ?_, fun looped => ?_, fun idle => ?_⟩⟩
  · rw [exec_strikeTake slot idle, qualify_accepted accepted, matchStrike_matched (by exact matched), routeStrike_eq]
  · rw [routedTo_candidate (role.trans h)]
    exact ⟨noLoop, noBench, rfl⟩
  · rw [routedTo_idle (h.imp role.trans role.trans)]
    exact ⟨noLoop, noBench, noTie⟩
  · exact routedTo_active_toTie (role.trans h)
  · have : activeRoute u = .bench := by rw [route, activeRoute_eq, dig, benching]; rfl
    obtain ⟨toLoop, toBench⟩ := routedTo_bench (role.trans h) this
    exact ⟨toLoop.trans noLoop, toBench⟩
  · have : activeRoute u = .loop := by rw [route, activeRoute_eq, dig, phase]; exact if_neg other
    obtain ⟨toLoop, toBench⟩ := routedTo_loop (role.trans h) this
    exact ⟨toLoop, toBench.trans noBench⟩
  · have : activeRoute u = .loop := by rw [route, activeRoute_eq]; rcases looped with k | k <;> rw [k]
    obtain ⟨toLoop, toBench⟩ := routedTo_loop (role.trans h) this
    exact ⟨toLoop, toBench.trans noBench⟩
  · have : activeRoute u = .nowhere := by rw [route, activeRoute_eq]; rcases idle with k | k | k <;> rw [k]
    obtain ⟨toLoop, toBench⟩ := routedTo_nowhere (role.trans h) this
    exact ⟨toLoop.trans noLoop, toBench.trans noBench⟩

/-! ## DEFINE_PLANE -/

/-- The tests of DEFINE_PLANE in their order, for an entry that exists (R19). -/
theorem definePlaneTest_val (i : Fin 8) (lo hi : Nat) (p : Int) (s : State) :
    definePlaneTest i.val lo hi p s = if hi < lo ∨ p < -10000 ∨ 10000 < p then .inl .badValue
      else if inWork (entryAt s i).role then .inl .state
      else if overlapsOther i lo hi s then .inl .overlap
      else .inr i := by
  simp [definePlaneTest]

theorem exec_definePlane_refused {entry lo hi : Nat} {p : Int} {code : ResultCode}
    (h : definePlaneTest entry lo hi p s = .inl code) (tag : Nat) :
    exec (.definePlane tag entry lo hi p) s = .next (refuse .definePlane tag code s) := by
  simp [exec, execDefinePlane, h]

theorem exec_definePlane_taken {entry lo hi : Nat} {p : Int} {i : Fin 8} (h : definePlaneTest entry lo hi p s = .inr i)
    (tag : Nat) :
    exec (.definePlane tag entry lo hi p) s = .next (answer .definePlane tag .ok .none (modifyEntry i (fun _ =>
      { PlaneEntry.cleared with role := .standby, sigLo := lo, sigHi := hi, slope := p }) s)) := by
  simp [exec, execDefinePlane, h]

/-- Settles O13: each answer of R19 from the test that decides it. -/
theorem definePlane : Obligations.DefinePlane := by
  intro tag lo hi p i s
  refine ⟨fun ordered least most idle apart => ?_, fun bad => exec_definePlane_refused ?_ tag,
    fun ordered least most work => exec_definePlane_refused ?_ tag,
    fun ordered least most idle overlap => exec_definePlane_refused ?_ tag,
    fun entry above => exec_definePlane_refused ?_ tag⟩
  · have passed : definePlaneTest i.val lo hi p s = .inr i := by
      rw [definePlaneTest_val, if_neg (by omega), idle, apart]; rfl
    rw [exec_definePlane_taken passed]
    rfl
  · rw [definePlaneTest_val, if_pos bad]
  · rw [definePlaneTest_val, if_neg (by omega), if_pos work]
  · rw [definePlaneTest_val, if_neg (by omega), idle, if_neg nofun, if_pos overlap]
  · simp [definePlaneTest, entryOf_eq_none above]

end Sys2Proof.Proofs
end

section
/-! The only operation leaves the queue (R155, R156), and the wheel: what a step of the accumulator does and whom it tells
(R24 to R28). -/

namespace Sys2Proof.Proofs

open Sys2Proof.Machine Sys2Proof.Safety Sys2Proof.Laws

variable {s t u : State} {op : Operation} {out : OpOutcome} {why : OpReason}

/-! ## The only operation leaves -/

/-- What the end of the only operation leaves (R155). -/
structure Completed (op : Operation) (out : OpOutcome) (why : OpReason) (s u : State) : Prop where
  oq : u.oq = { ops := [], seq := if s.oq.seq = .faulted then .faulted else .idle, pause := .none, dwellTimer := none }
  gl : u.gl = { v := 0, loop := none }
  lt : u.lt = none
  te : u.te = { s.te with bench := none }
  cc : u.cc = { s.cc with chw := none }
  os : u.os = (handOn 0 s).os
  sm : u.sm = s.sm.map fun m => { m with drive := 0 }
  pat : u.pat = s.pat
  mlr : u.mlr = s.mlr
  sq : u.sq = s.sq
  clock : u.clock = s.clock
  clp : u.clp = fireIn (.opDone op.tag (kindOf op.params) out why (cyclesReported op s.free) 0) s.clock (chainage s) s.clp

theorem completed_of_single (h : s.oq.ops = [op]) (out : OpOutcome) (why : OpReason) :
    Completed op out why s (completeHead out why s) := by
  rw [completeHead_single h]
  obtain ⟨hoq, hgl, hlt, hte, hcc, hos, hsm, hpat, hmlr, hsq, hclock, _, hclp⟩ := leaveQueue_cons h out why
  refine ⟨?_, hgl, hlt, hte, hcc, hos, hsm, hpat, hmlr, hsq, hclock, hclp⟩
  rw [idleSequencer_oq, hoq]

/-- The flag of OP_DONE (section 11.3). -/
theorem flag_opDone (tag : Nat) (kind : OpKind) (out : OpOutcome) (why : OpReason) (cycles left : Nat) (time : Time)
    (c : Nat) (p : Clp) : (fireIn (.opDone tag kind out why cycles left) time c p).flags.getLsbD 11 = true := by
  rw [fireIn_flags, BitVec.getLsbD_or, Bool.or_eq_true]
  have own : (kindMask 11).getLsbD 11 = true := by decide
  exact .inr own

/-- Nothing executes in an empty queue, and the permit is withdrawn (R169). -/
theorem permitHolds_of_nil (h : t.oq.ops = []) : permitHolds t = false := by
  unfold permitHolds
  rw [operationTravels_eq, executingKind_of_nil h]
  rfl

/-- Whatever the chainage block does meanwhile, but that no high-water chainage stands. -/
theorem Completed.queueDone_with (h : Completed op out why s u) {c : Cc} (chw : c.chw = none) :
    queueDone (formPermit { u with cc := c }) := by
  have ops : u.oq.ops = [] := by rw [h.oq]
  have held : permitHolds { u with cc := c } = false := permitHolds_of_nil ops
  obtain ⟨raised, lowered⟩ := handOn_zero_duties s
  refine ⟨⟨ops, ?_, ?_, ?_, h.lt, chw, ?_, ?_, ?_, ?_, held, ?_⟩, ?_⟩
  · show u.oq.pause = _; rw [h.oq]
  · show u.gl.v = _; rw [h.gl]
  · show u.gl.loop = _; rw [h.gl]
  · show u.te.bench = _; rw [h.te]
  · show u.oq.dwellTimer = _; rw [h.oq]
  · show u.os.raiseDuty = _; rw [h.os, raised]
  · show u.os.lowerDuty = _; rw [h.os, lowered]
  · show (permitHolds { u with cc := c } && u.sm.isNone) = _; rw [held]; rfl
  · show u.clp.flags.getLsbD 11 = _; rw [h.clp]; exact flag_opDone _ _ _ _ _ _ _ _ _

theorem Completed.queueDone (h : Completed op out why s u) : queueDone (formPermit u) :=
  h.queueDone_with (c := u.cc) (by rw [h.cc])

theorem portKept_of_eq (h : t.clp = s.clp) : portKept s t := by
  unfold portKept; rw [h]; exact ⟨rfl, rfl, rfl, rfl, rfl, rfl, rfl⟩

/-- The port keeps its settings, its receiver and its reply through one event more. -/
theorem portKept_fireIn {p : Clp} {e : Event} {time : Time} {c : Nat} (ht : t.clp = fireIn e time c p)
    (h : portKept s { s with clp := p }) : portKept s t := by
  unfold portKept at *
  rw [ht, fireIn_address, fireIn_rx, fireIn_held, fireIn_inHand, fireIn_reply, fireIn_enables, fireIn_consts]
  exact h

theorem Completed.portKept (h : Completed op out why s u) : portKept s u :=
  portKept_fireIn h.clp (portKept_of_eq rfl)

theorem cyclesReported_of_dig {op : Operation} (h : kindOf op.params = .dig) (free : Nat) : cyclesReported op free = 0 := by
  unfold cyclesReported
  cases hp : op.params with
  | dig n k0 e c0 => rfl
  | _ => rw [hp] at h; cases h

/-! ## The detector (R28) -/

/-- The chainage block after the detector has seen the chainage. -/
def detectedCc (s : State) : Cc :=
  if s.cc.anchor + 5 < chainage s ∨ chainage s + 5 < s.cc.anchor then
    { s.cc with anchor := chainage s, still := .moving, stillTimer := some (s.clock + 1000) }
  else s.cc

theorem detectMovement_eq (s : State) : detectMovement s = { s with cc := detectedCc s } := by
  unfold detectMovement detectedCc
  split <;> rfl

/-- The detector leaves the accumulator and what is reckoned from it. -/
theorem detectedCc_keeps (s : State) :
    (detectedCc s).acc = s.cc.acc ∧ (detectedCc s).chw = s.cc.chw ∧ (detectedCc s).pair = s.cc.pair
      ∧ (detectedCc s).source = s.cc.source ∧ (detectedCc s).limitLatch = s.cc.limitLatch := by
  unfold detectedCc; split <;> exact ⟨rfl, rfl, rfl, rfl, rfl⟩

theorem detectedCc_moved (h : s.cc.anchor + 5 < chainage s ∨ chainage s + 5 < s.cc.anchor) :
    detectedCc s = { s.cc with anchor := chainage s, still := .moving, stillTimer := some (s.clock + 1000) } := if_pos h

theorem detectedCc_unmoved (h : chainage s ≤ s.cc.anchor + 5) (h' : s.cc.anchor ≤ chainage s + 5) :
    detectedCc s = s.cc := if_neg (by omega)

theorem chainage_detected (s : State) : chainage { s with cc := detectedCc s } = chainage s := by
  unfold chainage; rw [(detectedCc_keeps s).1]

/-! ## The watchers (R25) -/

/-- The watchers a chainage is handed to after the high-water chainage, in the order of R25. -/
abbrev watched (s : State) : State := watchHold (watchTie (watchBench (watchLoop s)))

theorem handChainage_eq (s : State) :
    handChainage s = watched { raiseHighWater s with cc := detectedCc (raiseHighWater s) } := by
  unfold handChainage
  rw [detectMovement_eq]

theorem watchLoop_none (h : loopLimit s = none) : watchLoop s = s := by unfold watchLoop; rw [h]

theorem watchBench_none (h : s.te.bench = none) : watchBench s = s := by unfold watchBench; rw [h]

theorem watchTie_none (h : s.te.tie = none) : watchTie s = s := by unfold watchTie; rw [h]

theorem watchHold_none (h : holdReached s = false) : watchHold s = s := if_neg (by rw [h]; exact nofun)

theorem loopLimit_of_none (h : s.gl.loop = none) : loopLimit s = none := by unfold loopLimit; rw [h]

theorem loopLimit_of_tracking {l : LoopCtx} {due : Time} (hl : s.gl.loop = some l) (hst : l.state = .tracking due) :
    loopLimit s = none := by
  unfold loopLimit; simp [hl, hst]

/-- No HOLD, no distance to reach (R148). -/
theorem holdReached_of_kind (h : executingKind s ≠ some .hold) : holdReached s = false := by
  unfold holdReached
  unfold executingKind at h
  cases he : executing s with
  | none => rfl
  | some x =>
    obtain ⟨op, info⟩ := x
    rw [he] at h
    cases hp : op.params with
    | hold target distance => exact absurd (by simp [hp, kindOf]) h
    | _ => simp [hp]

/-- With no loop limit, no bench, no tie and no HOLD in the way nothing watches. -/
theorem watched_none (loop : loopLimit s = none) (bench : s.te.bench = none) (tie : s.te.tie = none)
    (hold : holdReached s = false) : watched s = s := by
  unfold watched
  rw [watchLoop_none loop, watchBench_none bench, watchTie_none tie, watchHold_none hold]

theorem raiseHighWater_none (h : s.cc.chw = none) : raiseHighWater s = s := by unfold raiseHighWater; rw [h]

theorem raiseHighWater_below {high : Nat} (h : s.cc.chw = some high) (below : chainage s ≤ high) :
    raiseHighWater s = s := by
  unfold raiseHighWater; rw [h]; exact if_neg (by omega)

theorem raiseHighWater_above {high : Nat} (h : s.cc.chw = some high) (above : high < chainage s) :
    raiseHighWater s = testBoundary { s with cc := { s.cc with chw := some (chainage s) } } := by
  unfold raiseHighWater; rw [h]; exact if_pos above

/-! ## A step (R25, R26) -/

/-- The part with the wheel levels as the transition leaves them. -/
abbrev rolled (forward : Bool) (s : State) : State :=
  { s with cc := { s.cc with pair := nextPair forward s.cc.pair } }

theorem nextPair_ne (forward : Bool) (p : WheelPair) : nextPair forward p ≠ p := by
  obtain ⟨a, b⟩ := p
  revert forward a b
  decide

theorem nextPair_back_ne (p : WheelPair) : nextPair false p ≠ forwardPair p := by
  obtain ⟨a, b⟩ := p
  revert a b
  decide

theorem wheelStep_nextPair (forward : Bool) (p : WheelPair) (s : State) :
    wheelStep p (nextPair forward p) s = stepChainage forward s.clp.consts.wheelPitch s := by
  cases forward with
  | true => exact if_pos rfl
  | false => unfold wheelStep; rw [if_neg (nextPair_back_ne p)]; exact if_pos rfl

/-- A transition to the next pair, either way, takes one step (R24). -/
theorem exec_wheelTransition_next (forward : Bool) (wheel : s.cc.source = .wheel) :
    exec (.wheelTransition (nextPair forward s.cc.pair)) s
      = .next (formPermit (stepChainage forward s.clp.consts.wheelPitch (rolled forward s))) := by
  show execWheelTransition _ s = _
  unfold execWheelTransition
  rw [if_neg (nextPair_ne forward _)]
  dsimp only
  split
  next shadow => rw [wheel] at shadow; cases shadow
  next => rw [wheelStep_nextPair]

theorem limitHit_eq_none {forward : Bool} {acc size : Nat}
    (h : if forward then acc + size ≤ 999999999 ∧ acc < 999999999 else size ≤ acc ∧ acc ≠ 0) :
    limitHit forward acc size = none := by
  unfold limitHit accTop
  cases forward with
  | true =>
    rw [if_pos rfl] at h
    rw [if_pos rfl, if_neg (by omega)]
  | false =>
    rw [if_neg nofun] at h
    rw [if_neg nofun, if_neg (by omega)]

theorem applyStep_of_uncut {forward : Bool} {size : Nat} (h : limitHit forward s.cc.acc size = none) :
    applyStep forward size s = { s with cc := steppedCc forward size s.cc } := by
  unfold applyStep; rw [h]; rfl

/-- A step that ends away from both ends moves the accumulator and clears the latch (R26). -/
theorem applyStep_free {forward : Bool} {size : Nat}
    (low : 0 < if forward then s.cc.acc + size else s.cc.acc - size)
    (high : (if forward then s.cc.acc + size else s.cc.acc - size) < 999999999) :
    applyStep forward size s = { s with cc := { s.cc with
      acc := if forward then s.cc.acc + size else s.cc.acc - size, limitLatch := false } } := by
  have uncut : limitHit forward s.cc.acc size = none := limitHit_eq_none (by
    cases forward with
    | true => simp at high ⊢; omega
    | false => simp at low high ⊢; omega)
  have stepped : steppedAcc forward s.cc.acc size = if forward then s.cc.acc + size else s.cc.acc - size := by
    unfold steppedAcc accTop
    cases forward with
    | true => simp at high ⊢; omega
    | false => rfl
  have latch : latchAfter s.cc.limitLatch forward s.cc.acc size = false := by
    unfold latchAfter
    rw [uncut, stepped]
    simp [low, high, accTop]
  rw [applyStep_of_uncut uncut]
  unfold steppedCc
  rw [stepped, latch]

theorem stepChainage_same {forward : Bool} {size : Nat} (h : chainage (applyStep forward size s) = chainage s) :
    stepChainage forward size s = applyStep forward size s := if_pos h

theorem stepChainage_changed {forward : Bool} {size : Nat} (h : chainage (applyStep forward size s) ≠ chainage s) :
    stepChainage forward size s = handChainage (applyStep forward size s) := if_neg h

/-! ## A double change, and a step that keeps the millimetre (R24, R25) -/

theorem steppedTo_forward (s : State) : steppedTo true s = s.cc.acc + s.clp.consts.wheelPitch := rfl

theorem steppedTo_backward (s : State) : steppedTo false s = s.cc.acc - s.clp.consts.wheelPitch := rfl

theorem exec_wheelTransition_free {forward : Bool} (wheel : s.cc.source = .wheel) (low : 0 < steppedTo forward s)
    (high : steppedTo forward s < 999999999) (same : steppedTo forward s / 1000 = s.cc.acc / 1000) :
    exec (.wheelTransition (nextPair forward s.cc.pair)) s = .next (formPermit { s with cc := { s.cc with
      pair := nextPair forward s.cc.pair, acc := steppedTo forward s, limitLatch := false } }) := by
  have applied : applyStep forward s.clp.consts.wheelPitch (rolled forward s) = { s with cc := { s.cc with
      pair := nextPair forward s.cc.pair, acc := steppedTo forward s, limitLatch := false } } :=
    applyStep_free (by exact low) (by exact high)
  rw [exec_wheelTransition_next forward wheel, stepChainage_same (by rw [applied]; exact same), applied]

theorem exec_wheelTransition_double (wheel : s.cc.source = .wheel) :
    exec (.wheelTransition { a := !s.cc.pair.a, b := !s.cc.pair.b }) s = .next (formPermit (countWheelFault
      { s with cc := { s.cc with pair := { a := !s.cc.pair.a, b := !s.cc.pair.b } } })) := by
  show execWheelTransition _ s = _
  unfold execWheelTransition wheelStep
  obtain ⟨a, b⟩ := s.cc.pair
  rw [if_neg (by simp)]
  dsimp only
  split
  next shadow => rw [wheel] at shadow; cases shadow
  next =>
    rw [if_neg (by revert a b; decide), if_neg (by revert a b; decide)]

theorem exec_wheelTransition_shadow (shadow : s.cc.source = .shadow) (p : WheelPair) :
    exec (.wheelTransition p) s = .next { s with cc := { s.cc with pair := p } } := by
  show execWheelTransition p s = _
  unfold execWheelTransition
  split
  next same => rw [same]
  next =>
    dsimp only
    split
    next => rfl
    next wheel => rw [shadow] at wheel; cases wheel

/-- Settles O16. -/
theorem wheelTransition : Obligations.WheelTransition := by
  intro a b s pair
  refine ⟨fun wheel high _ same => ?_, fun wheel low high same => ?_, fun wheel => ?_, exec_wheelTransition_shadow⟩
  · have free := exec_wheelTransition_free (forward := true) wheel
      (by rw [steppedTo_forward]; omega) high same
    rw [pair] at free
    exact free
  · have free := exec_wheelTransition_free (forward := false) wheel
      (by rw [steppedTo_backward]; omega) (by rw [steppedTo_backward]; omega) same
    rw [pair] at free
    exact free
  · have double := exec_wheelTransition_double wheel
    rw [pair] at double
    exact double

/-! ## A step of a part at rest -/

/-- At rest a changed chainage moves the detector alone. -/
theorem handChainage_at_rest (loop : s.gl.loop = none) (bench : s.te.bench = none) (tie : s.te.tie = none)
    (chw : s.cc.chw = none) (ops : s.oq.ops = []) : handChainage s = { s with cc := detectedCc s } := by
  rw [handChainage_eq, raiseHighWater_none chw]
  refine watched_none (loopLimit_of_none loop) bench tie (holdReached_of_kind ?_)
  exact fun h => nomatch (executingKind_of_nil (s := { s with cc := detectedCc s }) ops).symm.trans h

/-- The chainage block after a step of a part at rest: the accumulator, then the detector when the chainage changed. -/
def arrivedCc (forward : Bool) (size : Nat) (s : State) : Cc :=
  if steppedAcc forward s.cc.acc size / 1000 = s.cc.acc / 1000 then steppedCc forward size s.cc
  else detectedCc { s with cc := steppedCc forward size s.cc }

theorem arrivedCc_keeps (forward : Bool) (size : Nat) (s : State) :
    (arrivedCc forward size s).acc = steppedAcc forward s.cc.acc size
      ∧ (arrivedCc forward size s).limitLatch = latchAfter s.cc.limitLatch forward s.cc.acc size
      ∧ (arrivedCc forward size s).chw = s.cc.chw ∧ (arrivedCc forward size s).pair = s.cc.pair
      ∧ (arrivedCc forward size s).source = s.cc.source := by
  unfold arrivedCc
  split
  · exact ⟨rfl, rfl, rfl, rfl, rfl⟩
  · obtain ⟨acc, chw, pair, source, latch⟩ := detectedCc_keeps { s with cc := steppedCc forward size s.cc }
    exact ⟨acc, latch, chw, pair, source⟩

theorem arrivedCc_moved {forward : Bool} {size : Nat} (changed : steppedAcc forward s.cc.acc size / 1000 ≠ s.cc.acc / 1000)
    (far : s.cc.anchor + 5 < steppedAcc forward s.cc.acc size / 1000
      ∨ steppedAcc forward s.cc.acc size / 1000 + 5 < s.cc.anchor) :
    arrivedCc forward size s = { steppedCc forward size s.cc with
      anchor := steppedAcc forward s.cc.acc size / 1000, still := .moving, stillTimer := some (s.clock + 1000) } :=
  (if_neg changed).trans (detectedCc_moved (s := { s with cc := steppedCc forward size s.cc }) far)

theorem arrivedCc_unmoved {forward : Bool} {size : Nat}
    (near : steppedAcc forward s.cc.acc size / 1000 ≤ s.cc.anchor + 5)
    (near' : s.cc.anchor ≤ steppedAcc forward s.cc.acc size / 1000 + 5) :
    arrivedCc forward size s = steppedCc forward size s.cc := by
  unfold arrivedCc
  split
  · rfl
  · exact detectedCc_unmoved (s := { s with cc := steppedCc forward size s.cc }) near near'

/-- The step of a part at rest: the accumulator, then the detector, with LINE where the latch is set. -/
theorem stepChainage_at_rest {forward : Bool} {size : Nat} (rest : atRest s) :
    ∃ clp, applyStep forward size s = { s with cc := steppedCc forward size s.cc, clp := clp }
      ∧ portKept s (applyStep forward size s)
      ∧ stepChainage forward size s = { s with cc := arrivedCc forward size s, clp := clp } := by
  obtain ⟨ops, _, loop, bench, tie, chw⟩ := rest
  obtain ⟨clp, applied, port⟩ : ∃ clp, applyStep forward size s = { s with cc := steppedCc forward size s.cc, clp := clp }
      ∧ portKept s (applyStep forward size s) := by
    obtain h | ⟨which, _, _, h⟩ := applyStep_eq forward size s
    · exact ⟨s.clp, h, by rw [h]; exact ⟨rfl, rfl, rfl, rfl, rfl, rfl, rfl⟩⟩
    · exact ⟨_, h, by rw [h]; exact portKept_fire _ _⟩
  refine ⟨clp, applied, port, ?_⟩
  unfold arrivedCc
  split
  next same => rw [stepChainage_same (by rw [applied]; exact same), applied]
  next changed =>
    rw [stepChainage_changed (by rw [applied]; exact changed), applied]
    exact handChainage_at_rest loop bench tie chw ops

/-- What LINE does to the port at a step of the accumulator (R26). -/
theorem applyStep_clp_past {forward : Bool} {size : Nat} {which : RangeEnd}
    (hit : limitHit forward s.cc.acc size = some which) :
    (s.cc.limitLatch = true → (applyStep forward size s).clp = s.clp)
      ∧ (s.cc.limitLatch = false → ∃ c, (applyStep forward size s).clp
          = fireIn (.line (.chainageLimit which)) s.clock c s.clp) := by
  unfold applyStep
  rw [hit]
  dsimp only
  constructor
  · intro latched
    rw [if_pos latched]
  · intro clear
    rw [if_neg (by rw [clear]; exact nofun)]
    exact ⟨_, rfl⟩

theorem limitHit_past {forward : Bool} {acc size : Nat}
    (h : if forward then 999999999 < acc + size else acc < size) :
    limitHit forward acc size = some (if forward then .high else .low) := by
  unfold limitHit accTop
  cases forward with
  | true => rw [if_pos rfl] at h ⊢; rw [if_pos (.inl h)]; rfl
  | false => rw [if_neg nofun] at h ⊢; rw [if_pos (.inl h)]; rfl

/-- A step that lands on an end exactly leaves the latch, and one that ends between clears it; neither fires LINE (R26). -/
theorem latchAfter_uncut {forward : Bool} {acc size : Nat} (h : limitHit forward acc size = none) (latch : Bool) :
    latchAfter latch forward acc size
      = if 0 < steppedAcc forward acc size ∧ steppedAcc forward acc size < 999999999 then false else latch := by
  unfold latchAfter
  rw [h]
  rfl

theorem limitHit_of_between {forward : Bool} {acc size : Nat} (low : 0 < steppedAcc forward acc size)
    (high : steppedAcc forward acc size < 999999999) : limitHit forward acc size = none := by
  refine limitHit_eq_none ?_
  unfold steppedAcc accTop at low high
  cases forward with
  | true => simp at low high ⊢; omega
  | false => simp at low ⊢; omega

/-- A step that lands on an end exactly. -/
theorem landed_at_end {forward : Bool} {acc size : Nat}
    (h : if forward then acc + size = 999999999 ∧ 0 < size else acc = size ∧ 0 < size) :
    limitHit forward acc size = none
      ∧ ¬ (0 < steppedAcc forward acc size ∧ steppedAcc forward acc size < 999999999) := by
  unfold steppedAcc accTop
  cases forward with
  | true =>
    simp at h
    exact ⟨limitHit_eq_none (by simp; omega), by simp; omega⟩
  | false =>
    simp at h
    exact ⟨limitHit_eq_none (by simp; omega), by simp; omega⟩

/-- Settles O17: the accumulator and the latch first, then the detector. -/
theorem stepAtRest : Obligations.StepAtRest := by
  intro forward s wheel rest size past
  obtain ⟨clp, applied, port, stepped⟩ :=
    stepChainage_at_rest (s := rolled forward s) (forward := forward) (size := size) rest
  obtain ⟨acc, latch, chw, pair, source⟩ := arrivedCc_keeps forward size (rolled forward s)
  have hclp : clp = (applyStep forward size (rolled forward s)).clp := by rw [applied]
  have uncut : limitHit forward s.cc.acc size = none → clp = s.clp := fun h => by
    rw [hclp, applyStep_of_uncut (by exact h)]
  obtain ⟨_, _, _, _, _, noHigh⟩ := rest
  refine ⟨_, exec_wheelTransition_next forward wheel, ?_⟩
  rw [show stepChainage forward s.clp.consts.wheelPitch (rolled forward s) = _ from stepped]
  refine ⟨acc, pair, source.trans wheel, chw.trans noHigh, fun cut => ?_, fun landing => ?_, fun low high => ?_,
    fun changed far => ?_, fun near near' => ?_, rfl, rfl, rfl, rfl, rfl, rfl, rfl, rfl, ?_⟩
  · have hit := limitHit_past (by exact cut : if forward then 999999999 < s.cc.acc + size else s.cc.acc < size)
    have clpPast := applyStep_clp_past (s := rolled forward s) hit
    rw [← hclp] at clpPast
    refine ⟨latch.trans ?_, clpPast⟩
    show latchAfter s.cc.limitLatch forward s.cc.acc size = true
    unfold latchAfter
    rw [hit]
    rfl
  · obtain ⟨none, atEnd⟩ := landed_at_end landing
    exact ⟨latch.trans ((latchAfter_uncut none _).trans (if_neg atEnd)), uncut none⟩
  · have low : 0 < steppedAcc forward s.cc.acc size := acc ▸ low
    have high : steppedAcc forward s.cc.acc size < 999999999 := acc ▸ high
    have none := limitHit_of_between low high
    exact ⟨latch.trans ((latchAfter_uncut none _).trans (if_pos ⟨low, high⟩)), uncut none⟩
  · have changed : steppedAcc forward s.cc.acc size / 1000 ≠ s.cc.acc / 1000 := acc ▸ changed
    have moved := arrivedCc_moved (s := rolled forward s) changed (acc ▸ far)
    show (arrivedCc forward size (rolled forward s)).still = _ ∧ (arrivedCc forward size (rolled forward s)).anchor
      = (arrivedCc forward size (rolled forward s)).acc / 1000 ∧ (arrivedCc forward size (rolled forward s)).stillTimer = _
    rw [moved]
    exact ⟨rfl, rfl, rfl⟩
  · have unmoved := arrivedCc_unmoved (s := rolled forward s) (acc ▸ near) (acc ▸ near')
    show (arrivedCc forward size (rolled forward s)).still = _ ∧ (arrivedCc forward size (rolled forward s)).anchor = _
      ∧ (arrivedCc forward size (rolled forward s)).stillTimer = _
    rw [unmoved]
    exact ⟨rfl, rfl, rfl⟩
  · rw [applied] at port
    exact port

end Sys2Proof.Proofs
end

section
/-! Travel during a run (R27, R57 to R59, R64), and the machine that stands (R28, R29, R65, R66). -/

namespace Sys2Proof.Proofs

open Sys2Proof.Machine Sys2Proof.Safety Sys2Proof.Laws

variable {s t u : State} {r : RunCtx} {forward : Bool}

/-! ## A step that changes the chainage -/

/-- The part as the accumulator's own change leaves it (R25). -/
abbrev stepped (forward : Bool) (s : State) : State :=
  { s with cc := { s.cc with pair := nextPair forward s.cc.pair, acc := steppedTo forward s, limitLatch := false } }

/-- A free step is handed to the watchers (R25). -/
theorem exec_wheelTransition_stepped (free : stepsFreely forward s) :
    exec (.wheelTransition (nextPair forward s.cc.pair)) s
      = .next (formPermit (handChainage (stepped forward s))) := by
  obtain ⟨wheel, low, high, changed⟩ := free
  have applied : applyStep forward s.clp.consts.wheelPitch (rolled forward s) = stepped forward s :=
    applyStep_free (by exact low) (by exact high)
  rw [exec_wheelTransition_next forward wheel, stepChainage_changed (by rw [applied]; exact changed), applied]

/-! ## The boundary test (R57) -/

theorem boundaryTest_not_running (hr : s.lt = some r) (h : r.phase ≠ .running) (fuel : Nat) : boundaryTest fuel s = s := by
  cases fuel with
  | zero => rfl
  | succ n =>
    unfold boundaryTest
    split
    next r' high hr' _ =>
      rw [hr] at hr'
      cases hr'
      exact if_neg fun both => h both.1
    next => rfl

theorem testBoundary_eq (hr : s.lt = some r) :
    testBoundary s = boundaryTest ((segmentsOf (sheetAt s r.sheet).body).length + 1) s := by
  unfold testBoundary; rw [hr]

/-- At the end of the current segment the staged slot and the sheet decide (R57). -/
theorem boundaryTest_at_end {high : Nat} (hr : s.lt = some r) (hc : s.cc.chw = some high) (running : r.phase = .running)
    (atEnd : endChainage r.cur ≤ high) (fuel : Nat) :
    boundaryTest (fuel + 1) s = match r.staged with
      | some st =>
        if !r.cur.stopAtEnd && advancesAlone r s then boundaryTest fuel (exchange s) else holdAtEnd r st s
      | none => completeIfStill .done .runEnd (reachEnd r s) := by
  conv_lhs => unfold boundaryTest
  rw [hr, hc]
  exact if_pos ⟨running, atEnd⟩

/-- The run context after an exchange (R58). -/
abbrev exchanged (r : RunCtx) (st : StagedSegment) (g : Segment) (segments : List Segment) : RunCtx :=
  { r with cur := currentOf st.index st.cs st.invert g
           staged := stagedAfter segments (currentOf st.index st.cs st.invert g) }

/-- The staged segment becomes current (R58, R62). -/
theorem exchange_eq {st : StagedSegment} {g : Segment} (hr : s.lt = some r) (hst : r.staged = some st)
    (hg : (segmentsOf (sheetAt s r.sheet).body)[st.index]? = some g) :
    exchange s = fireMarker (currentOf st.index st.cs st.invert g) (fire (.segmentChange st.index st.cs st.invert)
      (clearWindow { s with lt := some (exchanged r st g (segmentsOf (sheetAt s r.sheet).body)) })) := by
  unfold exchange
  rw [hr]
  dsimp only
  rw [hst]
  dsimp only
  rw [hg]
  rfl

/-- The window cleared, with the settle count loaded (R85). -/
abbrev cleared (k : Constants) (l : LoopCtx) : LoopCtx := { l with window := [], settle := k.settleCount, holdCount := 0 }

theorem clearWindow_eq {l : LoopCtx} (hl : s.gl.loop = some l) :
    clearWindow s = { s with gl := { s.gl with loop := some (cleared s.clp.consts l) } } := modifyLoop_eq hl _

theorem clearWindow_none (hl : s.gl.loop = none) : clearWindow s = s := by
  have : s.gl = { s.gl with loop := none } := by rw [← hl]
  unfold clearWindow modifyLoop
  rw [hl]
  conv_rhs => rw [show s = { s with gl := { s.gl with loop := none } } by rw [← this]]
  rfl

theorem fireMarker_eq (c : CurrentSegment) (s : State) :
    fireMarker c s = { s with
      clp := if c.marker = .none then s.clp else fireIn (.marker c.marker c.index c.cs) s.clock (chainage s) s.clp } := by
  unfold fireMarker
  split <;> rfl

/-- The port after an exchange: SEGMENT_CHANGE, and MARKER where the new segment carries one (R58, R62). -/
def exchangeClp (st : StagedSegment) (g : Segment) (s : State) : Clp :=
  let changed := fireIn (.segmentChange st.index st.cs st.invert) s.clock (chainage s) s.clp
  if g.marker = .none then changed else fireIn (.marker g.marker st.index st.cs) s.clock (chainage s) changed

theorem exchangeClp_kept (st : StagedSegment) (g : Segment) (h : t.clp = exchangeClp st g s) : portKept s t := by
  unfold exchangeClp at h
  dsimp only at h
  split at h
  · exact portKept_fireIn h (portKept_of_eq rfl)
  · exact portKept_fireIn h (portKept_fireIn rfl (portKept_of_eq rfl))

/-- An exchange with a loop in the run (R58, R62, R85). -/
theorem exchange_in_run {st : StagedSegment} {g : Segment} {l : LoopCtx} (hr : s.lt = some r) (hst : r.staged = some st)
    (hg : (segmentsOf (sheetAt s r.sheet).body)[st.index]? = some g) (hl : s.gl.loop = some l) :
    exchange s = { s with
      lt := some (exchanged r st g (segmentsOf (sheetAt s r.sheet).body))
      gl := { s.gl with loop := some (cleared s.clp.consts l) }
      clp := exchangeClp st g s } := by
  rw [exchange_eq hr hst hg, clearWindow_eq (l := l) (by exact hl), fireMarker_eq]
  rfl

/-- The staged slot that follows, as the statements write it (R53). -/
theorem stagedAfter_eq (l : List Segment) (c : CurrentSegment) :
    stagedAfter l c = if c.index + 1 < l.length then
        some { index := c.index + 1, cs := c.cs + c.length, invert := c.invert + (riseOf c.grade c.length : Int) }
      else none := rfl

theorem advancesAlone_eq (r : RunCtx) (s : State) :
    advancesAlone r s = (((headerIn (sheetAt s r.sheet).body).map (·.autoAdvance)).getD false) := by
  unfold advancesAlone
  cases headerIn (sheetAt s r.sheet).body <;> rfl

/-! ## Travel during a run -/

/-- A run that is watched by nothing but the line: the loop tracks, no bench and no tie stand (R25). -/
theorem watched_in_run {l : LoopCtx} {due : Time} (hl : s.gl.loop = some l) (hst : l.state = .tracking due)
    (bench : s.te.bench = none) (tie : s.te.tie = none) (kind : executingKind s = some .dig) : watched s = s :=
  watched_none (loopLimit_of_tracking hl hst) bench tie (holdReached_of_kind fun h => nomatch kind.symm.trans h)

/-- The part once the detector has seen the chainage and the permit has been formed. -/
abbrev arrivedAt (u : State) : State := formPermit { u with cc := detectedCc u }

/-- A free step, where nothing watches the chainage but the line. -/
theorem exec_travel {u : State} (free : stepsFreely forward s) (raised : raiseHighWater (stepped forward s) = u)
    (quiet : watched { u with cc := detectedCc u } = { u with cc := detectedCc u }) :
    exec (.wheelTransition (nextPair forward s.cc.pair)) s = .next (arrivedAt u) := by
  rw [exec_wheelTransition_stepped free, handChainage_eq, raised, quiet]

theorem arrivedAt_acc (u : State) : (arrivedAt u).cc.acc = u.cc.acc := (detectedCc_keeps u).1

theorem arrivedAt_chw (u : State) : (arrivedAt u).cc.chw = u.cc.chw := (detectedCc_keeps u).2.1

theorem designInvert_end (c : CurrentSegment) :
    designInvert c (endChainage c) = c.invert + roundDiv ((c.grade : Int) * (c.length : Int)) 100000 := by
  have : ((endChainage c : Nat) : Int) - (c.cs : Int) = c.length := by unfold endChainage; omega
  unfold designInvert
  rw [this]

theorem permitHolds_of_pause (h : pauseEmpty s.oq.pause = false) : permitHolds s = false := by
  unfold permitHolds; rw [h, Bool.and_false]; rfl

/-- A DIG travels only while its run is RUNNING (R169). -/
theorem permitHolds_of_phase (kind : executingKind s = some .dig) (h : runPhase s ≠ some .running) :
    permitHolds s = false := by
  unfold permitHolds
  rw [operationTravels_eq, kind]
  simp [h]

/-- The part with the high-water chainage raised by a step. -/
abbrev raised (s : State) : State :=
  { stepped true s with cc := { (stepped true s).cc with chw := some (steppedTo true s / 1000) } }

theorem raiseHighWater_stepped {high : Nat} (hc : s.cc.chw = some high) (hr : s.lt = some r)
    (above : high < steppedTo true s / 1000) :
    raiseHighWater (stepped true s) = boundaryTest ((segmentsOf (sheetAt s r.sheet).body).length + 1) (raised s) := by
  rw [raiseHighWater_above (s := stepped true s) hc above]
  exact testBoundary_eq (s := raised s) hr

theorem executing_of_kind (h : executingKind s = some .dig) {op : Operation} (hops : s.oq.ops = [op]) :
    kindOf op.params = .dig := by
  unfold executingKind executing at h
  rw [hops] at h
  cases hs : op.state with
  | waiting => simp [hs] at h
  | executing info => simpa [hs] using h

/-- Settles O18: the high-water chainage, then the boundary test; nothing else watches. -/
theorem travelDuringARun : Obligations.TravelDuringARun := by
  intro r l due high s free noShadow hr hc _ hl hst tie bench kind c finish segments advances after
  have inRun : ∀ u : State, (∃ l', u.gl.loop = some l' ∧ l'.state = .tracking due) → u.te = s.te → u.oq.ops = s.oq.ops →
      watched { u with cc := detectedCc u } = { u with cc := detectedCc u } := fun u ⟨l', hl', hst'⟩ hte hops =>
    watched_in_run (l := l') hl' hst' (by rw [← bench, ← hte]) (by rw [← tie, ← hte])
      ((executingKind_congr (s := s) hops).trans kind)
  have above : high < c → raiseHighWater (stepped true s) = boundaryTest (segments.length + 1) (raised s) :=
    raiseHighWater_stepped hc hr
  have atEnd : high < c → r.phase = .running → finish ≤ c → raiseHighWater (stepped true s) = _ :=
    fun h running reached => (above h).trans (boundaryTest_at_end (s := raised s) hr rfl running reached _)
  refine ⟨fun below => ?_, fun past other => ?_, fun st g past running reached hstaged noStop auto hg short => ?_,
    fun st past running reached hstaged halts => ?_, fun past running reached hstaged => ?_⟩
  · have same : raiseHighWater (stepped true s) = stepped true s := raiseHighWater_below (s := stepped true s) hc below
    refine ⟨_, exec_travel free same (inRun _ ⟨l, hl, hst⟩ rfl rfl), arrivedAt_acc _, ?_, rfl, rfl, rfl, rfl, rfl,
      portKept_of_eq rfl⟩
    exact ⟨(arrivedAt_chw _).trans hc, hr, rfl, rfl, rfl, rfl⟩
  · have same : raiseHighWater (stepped true s) = raised s := by
      rw [above past]
      rcases other with other | short
      · exact boundaryTest_not_running (s := raised s) hr other _
      · exact boundaryTest_below (s := raised s) hr rfl short _
    refine ⟨_, exec_travel free same (inRun _ ⟨l, hl, hst⟩ rfl rfl), arrivedAt_acc _, ?_, rfl, rfl, rfl, rfl, rfl,
      portKept_of_eq rfl⟩
    exact ⟨arrivedAt_chw _, hr, rfl, rfl, rfl, rfl⟩
  · have alone : (!r.cur.stopAtEnd && advancesAlone r (raised s)) = true := by
      rw [noStop, advancesAlone_eq, show (headerIn (sheetAt (raised s) r.sheet).body).map (·.autoAdvance) = some true from auto]
      rfl
    have exchanges := exchange_in_run (s := raised s) hr hstaged hg hl
    have same : raiseHighWater (stepped true s) = exchange (raised s) := by
      rw [atEnd past running reached, hstaged]
      dsimp only
      rw [if_pos alone, exchanges]
      exact boundaryTest_below rfl rfl short _
    rw [exchanges] at same
    refine ⟨_, exec_travel free same (inRun _ ⟨_, rfl, hst⟩ rfl rfl), arrivedAt_acc _, ?_, rfl, rfl, rfl, rfl, rfl,
      exchangeClp_kept (s := raised s) st g rfl⟩
    exact ⟨arrivedAt_chw _, rfl, rfl, rfl, rfl, rfl⟩
  · have halted : ¬ (!r.cur.stopAtEnd && advancesAlone r (raised s)) = true := by
      rcases halts with stop | noAuto
      · rw [stop]; exact nofun
      · rw [advancesAlone_eq,
          show (headerIn (sheetAt (raised s) r.sheet).body).map (·.autoAdvance) = some false from noAuto]
        simp
    have same : raiseHighWater (stepped true s) = holdAtEnd r st (raised s) := by
      rw [atEnd past running reached, hstaged]
      exact if_neg halted
    refine ⟨_, exec_travel free same (inRun _ ⟨l, hl, hst⟩ rfl rfl), arrivedAt_acc _, ?_, rfl, rfl, rfl, rfl, rfl,
      portKept_fireIn rfl (portKept_of_eq rfl)⟩
    exact ⟨arrivedAt_chw _, rfl, rfl, permitHolds_of_pause (by simp [pauseEmpty, holdAtEnd]), rfl, rfl, rfl⟩
  · intro ended
    have line : (reachEnd r (raised s)).clp = ended := by
      show fireIn (.runEnd _ _ (designInvert r.cur (endChainage r.cur))) _ _ _ = _
      rw [designInvert_end]
      rfl
    have reachedEnd : raiseHighWater (stepped true s) = completeIfStill .done .runEnd (reachEnd r (raised s)) := by
      rw [atEnd past running reached, hstaged]
    have port : portKept s (reachEnd r (raised s)) := portKept_fireIn rfl (portKept_of_eq rfl)
    refine ⟨fun moving => ?_, fun op still hops => ?_⟩
    · have same : raiseHighWater (stepped true s) = reachEnd r (raised s) := by
        rw [reachedEnd]
        exact if_neg (by show ¬ s.cc.still = .still; rw [moving]; exact nofun)
      refine ⟨_, exec_travel free same (inRun _ ⟨l, hl, hst⟩ rfl rfl), arrivedAt_acc _, ?_, rfl, rfl, rfl, rfl, rfl, port⟩
      exact ⟨arrivedAt_chw _, permitHolds_of_phase kind (by simp [runPhase, reachEnd]), rfl, rfl, rfl, line, rfl⟩
    · have same : raiseHighWater (stepped true s) = completeHead .done .runEnd (reachEnd r (raised s)) := by
        rw [reachedEnd]
        exact if_pos still
      have done := completed_of_single (s := reachEnd r (raised s)) hops .done .runEnd
      have noChw : (completeHead .done .runEnd (reachEnd r (raised s))).cc.chw = none := by rw [done.cc]
      have quiet : watched { completeHead .done .runEnd (reachEnd r (raised s)) with
          cc := detectedCc (completeHead .done .runEnd (reachEnd r (raised s))) } = _ :=
        watched_none (loopLimit_of_none (by rw [done.gl])) (by rw [done.te]) (by rw [done.te]; exact tie)
          (holdReached_of_kind fun h => nomatch (executingKind_of_nil (by rw [done.oq])).symm.trans h)
      have kindOp := executing_of_kind kind hops
      refine ⟨_, exec_travel free same quiet, ?_, ⟨done.queueDone_with ?_, ?_⟩, done.pat, ?_, ?_, done.mlr, done.sq, ?_⟩
      · rw [arrivedAt_acc, done.cc]
        rfl
      · rw [(detectedCc_keeps _).2.1, noChw]
      · show (completeHead .done .runEnd (reachEnd r (raised s))).clp = _
        rw [done.clp, kindOp, cyclesReported_of_dig kindOp, line]
        rfl
      · show (completeHead .done .runEnd (reachEnd r (raised s))).te = _
        rw [done.te]
        show { s.te with bench := none } = s.te
        rw [← bench]
      · show (completeHead .done .runEnd (reachEnd r (raised s))).sm = _
        rw [done.sm]
        show s.sm.map _ = s.sm
        rw [noShadow]
        rfl
      · exact portKept_fireIn done.clp port

end Sys2Proof.Proofs
end

section
/-! Travel against the limits that watch the chainage (R106, R108, R122, R129, R148, R149); SET_CHAINAGE (R30, R31); the
machine that stands (R28, R29, R65, R66). -/

namespace Sys2Proof.Proofs

open Sys2Proof.Machine Sys2Proof.Safety Sys2Proof.Laws

variable {s t u : State} {forward : Bool} {l : LoopCtx}

/-! ## Entering LOST (R111) -/

/-- The port once the beam is lost from a loop state (R111, R116). -/
def beamLostClp (cause : LostCause) (left : LoopState) (s : State) : Clp :=
  fireIn (.beamLost cause (loopName left) (lossFields left).1 ((chainage s : Int) - ((lossFields left).2.1 : Int))
    (s.clock - (lossFields left).2.2)) s.clock (chainage s) s.clp

/-- Entering LOST sets V to 0, the pause reasons and the loop state, and fires BEAM_LOST (R111). -/
theorem enterLost_eq (hl : s.gl.loop = some l) (cause : LostCause) (left : LoopState) :
    enterLost cause left s = { handOn 0 s with
      gl := { v := 0, loop := some { l with state := .lost none } }
      oq := { s.oq with pause := { s.oq.pause with beam := true, resumeWait := false } }
      clp := beamLostClp cause left s } := by
  have lost := setLoopState_eq
    (s := withPause (fun p => { p with beam := true, resumeWait := false }) (handOn 0 s)) hl (.lost none)
  unfold enterLost
  dsimp only
  rw [lost]
  rfl

/-! ## Nothing in the way -/

/-- The part as a free step leaves it before the watchers but the high-water chainage's and the detector's. -/
abbrev arrived (forward : Bool) (s : State) : State := { stepped forward s with cc := detectedCc (stepped forward s) }

theorem chainage_arrived (forward : Bool) (s : State) : chainage (arrived forward s) = steppedTo forward s / 1000 :=
  chainage_detected (stepped forward s)

theorem raiseHighWater_not_passed (h : ∀ high, s.cc.chw = some high → chainage s ≤ high) : raiseHighWater s = s := by
  cases hc : s.cc.chw with
  | none => exact raiseHighWater_none hc
  | some high => exact raiseHighWater_below hc (h high hc)

/-- A free step that passes no high-water chainage is handed to the watchers. -/
theorem exec_wheelTransition_watched (free : stepsFreely forward s)
    (below : ∀ high, s.cc.chw = some high → steppedTo forward s / 1000 ≤ high) :
    exec (.wheelTransition (nextPair forward s.cc.pair)) s = .next (formPermit (watched (arrived forward s))) := by
  rw [exec_wheelTransition_stepped free, handChainage_eq, raiseHighWater_not_passed (s := stepped forward s) below]

theorem holdReached_unreached {c : Nat} (h : holdUnreached c s) (ops : u.oq.ops = s.oq.ops) (hc : chainage u = c) :
    holdReached u = false := by
  have same : executing u = executing s := by unfold executing; rw [ops]
  unfold holdReached
  rw [same]
  cases he : executing s with
  | none => rfl
  | some x =>
    obtain ⟨op, info⟩ := x
    cases hp : op.params with
    | hold target distance =>
      have := h op info target distance he hp
      simp only [hp]
      rw [decide_eq_false_iff_not, hc]
      omega
    | _ => simp only [hp]

/-! ## Each limit met -/

theorem loopLimit_of_coasting {start : Nat} {since : Time} (hl : s.gl.loop = some l) (hst : l.state = .coasting start since) :
    loopLimit s = if start + s.clp.consts.coastDist < chainage s then some .coast else none := by
  unfold loopLimit; simp only [hl, hst]

theorem loopLimit_of_searching {dir : Direction} {level start flips : Nat} {due since : Time} (hl : s.gl.loop = some l)
    (hst : l.state = .searching dir level start due flips since) :
    loopLimit s = if start + s.clp.consts.searchDist < chainage s then some .distance else none := by
  unfold loopLimit; simp only [hl, hst]

theorem loopLimit_of_acquiring (h : ∀ l, s.gl.loop = some l → l.state = .acquiring) : loopLimit s = none := by
  cases hl : s.gl.loop with
  | none => exact loopLimit_of_none hl
  | some l => unfold loopLimit; simp only [hl, h l hl]

theorem loopLimit_of_trackingAny (h : ∀ l, s.gl.loop = some l → ∃ due, l.state = .tracking due) : loopLimit s = none := by
  cases hl : s.gl.loop with
  | none => exact loopLimit_of_none hl
  | some l => obtain ⟨due, hst⟩ := h l hl; exact loopLimit_of_tracking hl hst

theorem watchLoop_lost {cause : LostCause} (h : loopLimit s = some cause) (hl : s.gl.loop = some l) :
    watchLoop s = enterLost cause l.state s := by
  unfold watchLoop; rw [h, hl]

theorem movedFrom_iff (reference c : Nat) : movedFrom reference c = true ↔ reference + 20 < c ∨ c + 20 < reference := by
  simp [movedFrom]

theorem watchBench_eq {b : Bench} {ref : Nat} (hb : s.te.bench = some b) (href : b.reference = some ref)
    (hs : b.sampling = true) :
    watchBench s = if ref + 20 < chainage s ∨ chainage s + 20 < ref then restartForMovement s else s := by
  unfold watchBench
  rw [hb]
  dsimp only
  rw [href]
  dsimp only
  rw [hs, Bool.true_and]
  exact if_congr (movedFrom_iff ref (chainage s)) rfl rfl

/-- A bench collector restarted for movement (R122). -/
theorem restartForMovement_eq {b : Bench} (hb : s.te.bench = some b) :
    restartForMovement s = { s with
      te := { s.te with bench := some {
        sampling := decide (s.cc.still = .still), samples := [], reference := none
        moveRestarts := countOne b.moveRestarts, spreadRestarts := b.spreadRestarts } }
      clp := { s.clp with
        counters := { s.clp.counters with benchRestart := countOne s.clp.counters.benchRestart } } } := by
  unfold restartForMovement modifyBench
  rw [hb]
  rfl

theorem watchTie_eq {r : TieRecord} (hr : s.te.tie = some r) :
    watchTie s = if r.result = none ∧ r.startChainage + s.clp.consts.tieDist < chainage s then endTie .distance none s
      else s := by
  unfold watchTie
  rw [hr]
  exact if_congr (by simp) rfl rfl

theorem holdReached_eq {op : Operation} {rest : List Operation} {info : RunInfo} {target : Option Nat} {distance : Nat}
    (hops : s.oq.ops = op :: rest) (hst : op.state = .executing info) (hp : op.params = .hold target distance) :
    holdReached s = decide (info.cycleChainage + distance ≤ chainage s) := by
  simp [holdReached, executing, hops, hst, hp]

theorem endCycle_of_cons {op : Operation} {rest : List Operation} (hops : s.oq.ops = op :: rest) (why : OpReason) :
    endCycle why s = if op.standing && rest.isEmpty then newCycle op.params s else completeHead .done why s := by
  unfold endCycle; rw [hops]

theorem modifyHead_eq {op : Operation} {rest : List Operation} {info : RunInfo} (hops : s.oq.ops = op :: rest)
    (hst : op.state = .executing info) (f : RunInfo → RunInfo) :
    modifyHead f s = { s with oq := { s.oq with ops := { op with state := .executing (f info) } :: rest } } := by
  unfold modifyHead
  rw [hops]
  dsimp only
  rw [hst]

/-- A new cycle of a standing HOLD (R149). -/
theorem newCycle_hold {op : Operation} {rest : List Operation} {info : RunInfo} {target : Option Nat} {distance : Nat}
    (hops : s.oq.ops = op :: rest) (hst : op.state = .executing info) (hp : op.params = .hold target distance) :
    newCycle op.params s = { s with oq := { s.oq with ops := { op with state := .executing { info with
      cycles := countOne info.cycles, cycleChainage := chainage s } } :: rest } } := by
  have cycle : newCycle op.params s
      = modifyHead (fun i => { i with cycles := countOne i.cycles, cycleChainage := chainage s }) s := by rw [hp]; rfl
  rw [cycle, modifyHead_eq hops hst]

/-- An operation that is no DIG gives back no sheet (R45). -/
theorem leaveQueue_ss_of_not_dig {op : Operation} {rest : List Operation} (hops : s.oq.ops = op :: rest)
    (h : kindOf op.params ≠ .dig) (out : OpOutcome) (why : OpReason) : (leaveQueue out why s).ss = s.ss := by
  rw [leaveQueue_ss hops]
  unfold adjustInUse
  cases hp : op.params with
  | dig n k0 e c0 => exact absurd (by rw [hp]; rfl) h
  | _ => rfl

theorem completeHead_ss_of_not_dig {op : Operation} (hops : s.oq.ops = [op]) (h : kindOf op.params ≠ .dig)
    (out : OpOutcome) (why : OpReason) : (completeHead out why s).ss = s.ss := by
  rw [completeHead_single hops]
  exact leaveQueue_ss_of_not_dig hops h out why

/-! ## The next operation starts -/

/-- A head that passes its checks starts (R143). -/
theorem startHead_started {op : Operation} {rest : List Operation} (hops : s.oq.ops = op :: rest)
    (passed : startCheck op.params (markStarted s) = none) (notDone : liftDoneAtOnce op.params (markStarted s) = false)
    (fuel : Nat) : startHead (fuel + 1) s = startActions op.params (markStarted s) := by
  conv_lhs => unfold startHead
  split
  next h => rw [hops] at h; cases h
  next op' _ h =>
    obtain ⟨rfl, _⟩ := List.cons.inj (hops.symm.trans h)
    dsimp only
    rw [passed]
    dsimp only
    rw [notDone]
    rfl

/-- A DWELL that becomes the head starts its timer and its first cycle (R143, R151). -/
theorem startHead_dwell {op : Operation} {rest : List Operation} {time : Nat} (hops : s.oq.ops = op :: rest)
    (hp : op.params = .dwell time) (fuel : Nat) :
    startHead (fuel + 1) s = { s with oq := { s.oq with
      ops := { op with state := .executing {
        startTime := s.clock, cycles := 1, cycleChainage := 0, cycleTime := s.clock } } :: rest
      seq := if s.oq.seq = .idle then .executing else s.oq.seq
      dwellTimer := some (s.clock + BitVec.ofNat 32 time) } } := by
  have passed : startCheck op.params (markStarted s) = none := by rw [hp]; rfl
  have notDone : liftDoneAtOnce op.params (markStarted s) = false := by rw [hp]; rfl
  have actions : startActions op.params (markStarted s) = startDwell time (markStarted s) := by rw [hp]; rfl
  rw [startHead_started hops passed notDone, actions]
  unfold startDwell
  rw [markStarted_cons hops, modifyHead_eq rfl rfl]
  rfl

theorem cyclesReported_of_cycles {op : Operation} {info : RunInfo} (stands : mayStand op.params = true)
    (hst : op.state = .executing info) (begun : 0 < info.cycles) (free : Nat) : cyclesReported op free = info.cycles := by
  unfold cyclesReported
  rw [if_pos stands, hst]
  exact if_neg (by omega)

/-! ## The limits met and not met -/

/-- What is asked of a state after a free step, besides what the limit met does. -/
abbrev travelled (forward : Bool) (s : State) (what : State → Prop) : Prop :=
  ∃ t, exec (.wheelTransition (nextPair forward s.cc.pair)) s = .next t ∧ t.cc.acc = steppedTo forward s ∧ what t
    ∧ t.ss = s.ss ∧ t.mlr = s.mlr ∧ t.sq = s.sq ∧ portKept s t

/-- Nothing but the chainage has changed. -/
abbrev unmovedFrom (s t : State) : Prop := t.gl = s.gl ∧ t.oq = s.oq ∧ t.te = s.te ∧ t.clp = s.clp ∧ t.pat = s.pat

section
variable (free : stepsFreely forward s) (below : ∀ high, s.cc.chw = some high → steppedTo forward s / 1000 ≤ high)
include free below

/-- What the watchers leave, once it has been found. -/
theorem travelled_of {what : State → Prop} (h : watched (arrived forward s) = u) (acc : u.cc.acc = steppedTo forward s)
    (hwhat : what (formPermit u)) (ss : u.ss = s.ss) (mlr : u.mlr = s.mlr) (sq : u.sq = s.sq) (port : portKept s u) :
    travelled forward s what :=
  ⟨formPermit u, by rw [exec_wheelTransition_watched free below, h], acc, hwhat, ss, mlr, sq, port⟩

theorem travelled_unmoved (loop : loopLimit (arrived forward s) = none) (bench : watchBench (arrived forward s) = arrived forward s)
    (tie : watchTie (arrived forward s) = arrived forward s) (hold : holdReached (arrived forward s) = false) :
    travelled forward s (unmovedFrom s) := by
  refine travelled_of free below (u := arrived forward s) ?_ (detectedCc_keeps _).1 ⟨rfl, rfl, rfl, rfl, rfl⟩ rfl rfl rfl
    (portKept_of_eq rfl)
  unfold watched
  rw [watchLoop_none loop, bench, tie, watchHold_none hold]

/-- A coast or a search that has gone too far ends in LOST (R106, R108, R111). -/
theorem travelled_lost {cause : LostCause} (hl : s.gl.loop = some l) (limit : loopLimit (arrived forward s) = some cause)
    (bench : s.te.bench = none) (tie : s.te.tie = none) (hold : holdUnreached (steppedTo forward s / 1000) s) :
    travelled forward s fun t =>
      t.gl = { v := 0, loop := some { l with state := .lost none } }
      ∧ t.oq = { s.oq with pause := { s.oq.pause with beam := true, resumeWait := false } }
      ∧ t.os.raiseDuty = 0 ∧ t.os.lowerDuty = 0 ∧ t.os.permit = false ∧ t.te = s.te ∧ t.pat = s.pat ∧ t.lt = s.lt
      ∧ t.clp = beamLostClp cause l.state (arrived forward s) := by
  have lost := enterLost_eq (s := arrived forward s) hl cause l.state
  have unreached : holdReached (enterLost cause l.state (arrived forward s)) = false :=
    holdReached_unreached hold (by rw [lost]) (by rw [lost]; exact chainage_arrived forward s)
  obtain ⟨raised, lowered⟩ := handOn_zero_duties (arrived forward s)
  refine travelled_of free below (u := enterLost cause l.state (arrived forward s)) ?_ (by rw [lost]; exact (detectedCc_keeps _).1) ?_
    (by rw [lost]; rfl) (by rw [lost]; rfl) (by rw [lost]; rfl) ?_
  · unfold watched
    rw [watchLoop_lost limit hl, watchBench_none (by rw [lost]; exact bench), watchTie_none (by rw [lost]; exact tie),
      watchHold_none unreached]
  · rw [lost]
    exact ⟨rfl, rfl, raised, lowered, permitHolds_of_pause rfl, rfl, rfl, rfl, rfl⟩
  · rw [lost]
    exact portKept_fireIn rfl (portKept_of_eq rfl)

end

/-- Settles O19: one watcher at a time, each met and not met. -/
theorem travelMeetsTheLimits : Obligations.TravelMeetsTheLimits := by
  intro forward s free below c k after unmoved lostBy
  have reached : chainage (arrived forward s) = c := chainage_arrived forward s
  refine ⟨fun l start since hl hst bench tie hold => ⟨fun far => ?_, fun near => ?_⟩,
    fun l dir level start due flips since hl hst bench tie hold => ⟨fun far => ?_, fun near => ?_⟩,
    fun b ref hb href sampling acquiring tie hold => ⟨fun far => ?_, fun near near' => ?_⟩,
    fun r hr bench tracking hold => ⟨fun collecting far => ?_, fun near => ?_⟩,
    fun op rest info target distance l due hops hop hp hl hst bench tie => ⟨fun near => ?_, fun far alone standing => ?_,
      fun far alone single begun => ?_, fun waiting next far behind hnext hwait begun => ?_⟩⟩
  · have limit : loopLimit (arrived forward s) = some .coast := by
      rw [loopLimit_of_coasting (s := arrived forward s) hl hst, reached]
      exact if_pos far
    obtain ⟨t, ht, acc, ⟨gl, oq, raised, lowered, permit, te, pat, lt, clp⟩, frame⟩ :=
      travelled_lost free below hl limit bench tie hold
    refine ⟨t, ht, acc, ⟨gl, oq, raised, lowered, permit, te, pat, lt, clp.trans ?_⟩, frame⟩
    rw [hst]
    unfold beamLostClp
    rw [reached]
    rfl
  · refine travelled_unmoved free below ?_ (watchBench_none bench) (watchTie_none tie) (holdReached_unreached hold rfl reached)
    rw [loopLimit_of_coasting (s := arrived forward s) hl hst, reached]
    exact if_neg (Nat.not_lt.mpr near)
  · have limit : loopLimit (arrived forward s) = some .distance := by
      rw [loopLimit_of_searching (s := arrived forward s) hl hst, reached]
      exact if_pos far
    obtain ⟨t, ht, acc, ⟨gl, oq, raised, lowered, permit, te, pat, lt, clp⟩, frame⟩ :=
      travelled_lost free below hl limit bench tie hold
    refine ⟨t, ht, acc, ⟨gl, oq, raised, lowered, permit, te, pat, lt, clp.trans ?_⟩, frame⟩
    rw [hst]
    unfold beamLostClp
    rw [reached]
    cases dir <;> rfl
  · refine travelled_unmoved free below ?_ (watchBench_none bench) (watchTie_none tie) (holdReached_unreached hold rfl reached)
    rw [loopLimit_of_searching (s := arrived forward s) hl hst, reached]
    exact if_neg (Nat.not_lt.mpr near)
  · have restarted := restartForMovement_eq (s := arrived forward s) hb
    have restarts : watchBench (arrived forward s) = restartForMovement (arrived forward s) := by
      rw [watchBench_eq (s := arrived forward s) hb href sampling, reached]
      exact if_pos far
    refine travelled_of free below (u := restartForMovement (arrived forward s)) ?_ ?_ ?_ ?_ ?_ ?_ ?_
    · unfold watched
      rw [watchLoop_none (s := arrived forward s) (loopLimit_of_acquiring acquiring), restarts, watchTie_none (by rw [restarted]; exact tie),
        watchHold_none (holdReached_unreached hold (by rw [restarted]) (by rw [restarted]; exact reached))]
    all_goals rw [restarted]
    · exact (detectedCc_keeps _).1
    · exact ⟨rfl, rfl, rfl, rfl, rfl⟩
    · exact ⟨rfl, rfl, rfl, rfl, rfl, rfl, rfl⟩
  · refine travelled_unmoved free below (loopLimit_of_acquiring acquiring) ?_ (watchTie_none tie)
      (holdReached_unreached hold rfl reached)
    rw [watchBench_eq (s := arrived forward s) hb href sampling, reached]
    exact if_neg (by omega)
  · have ended := endTie_of_some (s := arrived forward s) hr .distance none
    rw [reached] at ended
    have ends : watchTie (arrived forward s) = endTie .distance none (arrived forward s) := by
      rw [watchTie_eq (s := arrived forward s) hr, reached]
      exact if_pos ⟨collecting, far⟩
    refine travelled_of free below (u := endTie .distance none (arrived forward s)) ?_ ?_ ?_ ?_ ?_ ?_ ?_
    · unfold watched
      rw [watchLoop_none (s := arrived forward s) (loopLimit_of_trackingAny tracking),
        watchBench_none (s := arrived forward s) bench, ends,
        watchHold_none (holdReached_unreached hold (by rw [ended]) (by rw [ended]; exact reached))]
    all_goals rw [ended]
    · exact (detectedCc_keeps _).1
    · exact ⟨rfl, entryAt_modifyEntry_same r.candidate (fun e => { e with role := .standby, tie := none }) s,
        fun j hj => entryAt_modifyEntry_of_ne hj (fun e => { e with role := .standby, tie := none }) s, rfl, rfl, rfl⟩
    · exact portKept_fireIn rfl (portKept_of_eq rfl)
  · refine travelled_unmoved free below (loopLimit_of_trackingAny tracking) (watchBench_none bench) ?_
      (holdReached_unreached hold rfl reached)
    rw [watchTie_eq (s := arrived forward s) hr, reached]
    exact if_neg fun both => near.elim (fun h => h both.1) fun h => absurd both.2 (Nat.not_lt.mpr h)
  · refine travelled_unmoved free below (loopLimit_of_tracking hl hst) (watchBench_none bench) (watchTie_none tie) ?_
    rw [holdReached_eq (s := arrived forward s) hops hop hp, reached]
    exact decide_eq_false (Nat.not_le.mpr near)
  all_goals
    have ends : watched (arrived forward s) = endCycle .distance (arrived forward s) := by
      unfold watched
      rw [watchLoop_none (s := arrived forward s) (loopLimit_of_tracking hl hst),
        watchBench_none (s := arrived forward s) bench, watchTie_none (s := arrived forward s) tie]
      refine if_pos ?_
      rw [holdReached_eq (s := arrived forward s) hops hop hp, reached]
      exact decide_eq_true far
    rw [endCycle_of_cons (s := arrived forward s) hops] at ends
  · have again : newCycle op.params (arrived forward s) = { arrived forward s with oq := { s.oq with ops := [{ op with
        state := .executing { info with cycles := countOne info.cycles, cycleChainage := c } }] } } := by
      rw [newCycle_hold (s := arrived forward s) hops hop hp, reached, alone]
    rw [if_pos (by rw [standing, alone]; rfl), again] at ends
    exact travelled_of free below ends (detectedCc_keeps _).1 ⟨rfl, rfl, rfl, rfl, rfl⟩ rfl rfl rfl (portKept_of_eq rfl)
  · subst alone
    have done := completed_of_single (s := arrived forward s) hops .done .distance
    rw [if_neg (by rw [single]; exact nofun)] at ends
    have cycles := cyclesReported_of_cycles (by rw [hp]; rfl) hop begun s.free
    refine travelled_of free below ends ?_ ⟨done.queueDone, ?_, done.pat, ?_⟩ ?_ done.mlr done.sq done.portKept
    · rw [done.cc]; exact (detectedCc_keeps _).1
    · refine done.te.trans ?_
      show { s.te with bench := none } = s.te
      rw [← bench]
    · refine done.clp.trans ?_
      rw [show (arrived forward s).free = s.free from rfl, cycles, reached, hp]
      rfl
    · exact completeHead_ss_of_not_dig (s := arrived forward s) hops (by rw [hp]; exact nofun) _ _
  · subst behind
    obtain ⟨hoq, hgl, _, _, hcc, _, _, _, hmlr, hsq, hclock, _, hclp⟩ :=
      leaveQueue_cons (s := arrived forward s) hops .done .distance
    have cycles := cyclesReported_of_cycles (by rw [hp]; rfl) hop begun s.free
    have completes : completeHead .done .distance (arrived forward s) = _ :=
      startHead_dwell (s := leaveQueue .done .distance (arrived forward s)) (by rw [hoq]) hnext _
    rw [if_neg (by simp), completes] at ends
    have port : portKept s (leaveQueue .done .distance (arrived forward s)) := portKept_fireIn hclp (portKept_of_eq rfl)
    refine travelled_of free below ends ?_ ⟨?_, ?_, hgl, ?_⟩
      (leaveQueue_ss_of_not_dig (s := arrived forward s) hops (by rw [hp]; exact nofun) _ _) hmlr hsq port
    · show (leaveQueue .done .distance (arrived forward s)).cc.acc = _
      rw [hcc]
      exact (detectedCc_keeps _).1
    · show [{ waiting with state := _ }] = _
      rw [hclock]
    · show some ((leaveQueue .done .distance (arrived forward s)).clock + _) = _
      rw [hclock]
    · refine hclp.trans ?_
      rw [show (arrived forward s).free = s.free from rfl, cycles, reached, hp]
      rfl

end Sys2Proof.Proofs
end

section
/-! SET_CHAINAGE (R30, R31), the machine that stands (R28, R29, R65, R66), SET_CONSTANT (R191), the sheets (R36 to R44) and
the arithmetic of the line and the depth (R2, R54, R75). -/

namespace Sys2Proof.Proofs

open Sys2Proof.Machine Sys2Proof.Safety Sys2Proof.Laws

variable {s t u : State}

/-! ## SET_CHAINAGE -/

/-- With no loop, tie, operation or shadow run nothing is reckoned from the chainage. -/
theorem tellSetting_at_rest (rest : atRest s) (noShadow : s.sm = none) (c : Nat) : tellSetting c s = s := by
  obtain ⟨ops, _, loop, _, tie, _⟩ := rest
  unfold tellSetting
  rw [loop, tie, ops, noShadow]
  show { s with gl := { s.gl with loop := none }, te := { s.te with tie := none }, oq := { s.oq with ops := [] }, sm := none } = s
  rw [← loop, ← ops, ← noShadow]
  show { s with te := { s.te with tie := none } } = s
  rw [← tie]

theorem setTheChainage_at_rest (rest : atRest s) (noShadow : s.sm = none) (c : Nat) :
    setTheChainage c s = { s with cc := { s.cc with acc := 1000 * c, limitLatch := false, anchor := c } } := by
  have anchor : 1000 * c / 1000 = c := by omega
  unfold setTheChainage
  rw [tellSetting_at_rest (s := setAccumulator (1000 * c) s) rest noShadow]
  unfold setAccumulator
  rw [anchor]

theorem exec_setChainage_refused (h : holdsDig s = true ∨ s.sm ≠ none) (tag value : Nat) :
    exec (.setChainage tag value) s = .next (refuse .setChainage tag .state s) := by
  have : (holdsDig s || s.sm.isSome) = true := by
    rw [Bool.or_eq_true, Option.isSome_iff_ne_none]; exact h
  simp [exec, execSetChainage, this]

theorem exec_setChainage (dig : holdsDig s = false) (shadow : s.sm = none) (tag value : Nat) :
    exec (.setChainage tag value) s = if value ≤ 999999 then
        .next (answer .setChainage tag .ok .none (setTheChainage value s))
      else .next (answer .setChainage tag .clamped .none (setTheChainage 999999 s)) := by
  simp [exec, execSetChainage, dig, shadow]

theorem holdsDig_of_nil (h : s.oq.ops = []) : holdsDig s = false := by
  unfold holdsDig; rw [h]; rfl

/-- Settles O20. -/
theorem setChainage : Obligations.SetChainage := by
  intro tag value s
  refine ⟨fun rest noShadow inside => ?_, fun rest noShadow outside => ?_, fun h => exec_setChainage_refused h tag value,
    fun dig noShadow inside => ⟨_, (exec_setChainage dig noShadow tag value).trans (if_pos inside), setTheChainage_cc value s,
      fun l start since hl hst => ?_, fun l dir level start due flips since hl hst => ?_, fun r hr collecting => ?_,
      fun r hr waiting => ?_, fun op others info target distance hops hst hp => ?_, rfl, rfl, rfl, rfl, rfl, rfl, rfl⟩⟩
  · rw [exec_setChainage (holdsDig_of_nil rest.1) noShadow, if_pos inside, setTheChainage_at_rest rest noShadow]
  · rw [exec_setChainage (holdsDig_of_nil rest.1) noShadow, if_neg (by omega), setTheChainage_at_rest rest noShadow]
  · show s.gl.loop.map _ = _
    rw [hl]
    simp only [Option.map_some, hst]
    rfl
  · show s.gl.loop.map _ = _
    rw [hl]
    simp only [Option.map_some, hst]
    rfl
  · show s.te.tie.map (tieAtSetting value) = _
    rw [hr]
    exact congrArg some (if_neg (by rw [collecting]; exact nofun))
  · show s.te.tie.map (tieAtSetting value) = _
    rw [hr]
    exact congrArg some (if_pos (Option.isSome_iff_ne_none.mpr waiting))
  · show (s.oq.ops.map (opAtSetting value)).head? = _
    rw [hops]
    have restarted : opAtSetting value op = { op with state := .executing { info with cycleChainage := value } } := by
      simp [opAtSetting, hp, hst]
    exact congrArg some restarted

/-! ## The machine that stands -/

/-- The part once the detector is STILL and a waiting bench samples (R28, R29, R120). -/
abbrev standing (s : State) : State :=
  { s with cc := { s.cc with still := .still, stillTimer := none }
           te := { s.te with bench := s.te.bench.map fun b => { b with sampling := true } } }

theorem exec_stillnessTimerExpiry {due : Time} (h : s.cc.stillTimer = some due) :
    exec .stillnessTimerExpiry s = .next (formPermit (serveRun (standing s))) := by
  show execStillnessTimerExpiry s = _
  unfold execStillnessTimerExpiry
  rw [h]
  rfl

theorem serveRun_none (ended : runPhase s ≠ some .ended) (stopping : runPhase s ≠ some .stopping) : serveRun s = s := by
  unfold serveRun
  unfold runPhase at ended stopping
  cases hr : s.lt with
  | none => rfl
  | some r =>
    rw [hr] at ended stopping
    cases hp : r.phase with
    | ended => exact absurd (congrArg some hp) ended
    | stopping => exact absurd (congrArg some hp) stopping
    | _ => simp [hp]

/-- The end of a run that waited for the machine to stand (R65, R66). -/
theorem serveRun_completes {out : OpOutcome} {why : OpReason}
    (h : (runPhase s = some .ended ∧ out = .done ∧ why = .runEnd)
      ∨ (runPhase s = some .stopping ∧ out = .aborted ∧ why = .softAbort)) : serveRun s = completeHead out why s := by
  unfold serveRun
  unfold runPhase at h
  cases hr : s.lt with
  | none => rw [hr] at h; rcases h with ⟨h, _⟩ | ⟨h, _⟩ <;> cases h
  | some r =>
    rw [hr] at h
    rcases h with ⟨h, rfl, rfl⟩ | ⟨h, rfl, rfl⟩ <;> simp [Option.some.inj h]

/-- Settles O21. -/
theorem stillnessTimerExpiry : Obligations.StillnessTimerExpiry := by
  intro due s timer
  rw [exec_stillnessTimerExpiry timer]
  refine ⟨fun ended stopping => ?_, fun op out why phase hops kind => ?_⟩
  · rw [serveRun_none (s := standing s) ended stopping]
  · have done := completed_of_single (s := standing s) hops out why
    refine ⟨_, rfl, ?_⟩
    rw [serveRun_completes (s := standing s) phase]
    refine ⟨done.queueDone, ?_, ?_, ?_, ?_, done.pat, ?_, done.portKept⟩
    · rw [formPermit_cc, done.cc]
    · rw [formPermit_cc, done.cc]
    · refine done.clp.trans ?_
      rw [kind, cyclesReported_of_dig kind]
      rfl
    · rw [formPermit_cc, done.cc]
    · rw [formPermit_te, done.te]

/-! ## SET_CONSTANT -/

theorem exec_setConstant {id : Nat} {c : ConstId} (h : constOfId id = some c) (free : constantsHeld s = false) (tag : Nat)
    (value : Int) :
    exec (.setConstant tag id value) s = .next (answer .setConstant tag
      (if (heldValue s.clp.consts c value : Int) = value then .ok else .clamped)
      (.constant c (heldValue s.clp.consts c value)) { s with
        clp := { s.clp with consts := putConst s.clp.consts (heldValue s.clp.consts c value) c } }) := by
  simp [exec, execSetConstant, h, free]

theorem exec_setConstant_held {id : Nat} {c : ConstId} (h : constOfId id = some c) (held : constantsHeld s = true) (tag : Nat)
    (value : Int) : exec (.setConstant tag id value) s = .next (refuse .setConstant tag .state s) := by
  simp [exec, execSetConstant, h, held]

theorem constantsHeld_eq_false (ops : s.oq.ops = []) (tie : s.te.tie = none) (shadow : s.sm = none) :
    constantsHeld s = false := by
  simp [constantsHeld, tieInFlight, ops, tie, shadow]

theorem constantsHeld_of (h : s.oq.ops ≠ [] ∨ s.te.tie ≠ none ∨ s.sm ≠ none) : constantsHeld s = true := by
  unfold constantsHeld tieInFlight
  simp only [Bool.or_eq_true, Bool.not_eq_true', Option.isSome_iff_ne_none, or_assoc, ← Bool.not_eq_true,
    List.isEmpty_iff]
  exact h

/-- A value clamped to the range of a constant (R191). -/
theorem clamped_toNat (c : ConstId) (value : Int) :
    ((clampInt (constRow c).lo (constRow c).hi value).toNat : Int)
      = max ((constRow c).lo : Int) (min (constRow c).hi value) := by
  unfold clampInt; omega

/-- A constant without a partner holds the clamped value. -/
theorem heldValue_alone (k : Constants) {c : ConstId} (value : Int) (h1 : c ≠ .driveMin) (h2 : c ≠ .driveMax)
    (h3 : c ≠ .strokeBottom) (h4 : c ≠ .strokeTop) :
    heldValue k c value = (clampInt (constRow c).lo (constRow c).hi value).toNat := by
  unfold heldValue
  cases c with
  | driveMin => exact absurd rfl h1
  | driveMax => exact absurd rfl h2
  | strokeBottom => exact absurd rfl h3
  | strokeTop => exact absurd rfl h4
  | _ => rfl

theorem constOfId_eq_none {id : Nat} (outside : id = 0 ∨ 28 < id) : constOfId id = none := by
  rcases outside with rfl | above
  · rfl
  · obtain ⟨k, rfl⟩ := Nat.exists_eq_add_of_lt above
    rw [Nat.add_assoc, Nat.add_comm]
    rfl

/-- Settles O49. -/
theorem setConstant : Obligations.SetConstant := by
  intro tag id value s
  refine ⟨fun c hc ops tie shadow => ⟨heldValue s.clp.consts c value,
    exec_setConstant hc (constantsHeld_eq_false ops tie shadow) tag value, ?_⟩,
    fun c hc held => exec_setConstant_held hc (constantsHeld_of held) tag value, fun outside => ?_⟩
  · intro clamped
    have plain := clamped_toNat c value
    refine ⟨fun h1 h2 h3 h4 => ?_, fun h => ?_, fun h => ?_, fun h top => ?_, fun h => ?_⟩
    · rw [heldValue_alone _ value h1 h2 h3 h4]
      exact plain
    all_goals
      subst h
      simp only [heldValue, clampToPartner]
      omega
  · simp [exec, execSetConstant, constOfId_eq_none outside]

/-! ## The sheets -/

theorem markOf_toNat (b : Bool) : markOf b.toNat = some b := by cases b <;> rfl

theorem exec_openSheet {f : HeaderFields} {h : Header} (header : headerOf f = some h) (tag : Nat) (n : Fin 6) (s : State) :
    exec (.openSheet tag (n.val + 1) f) s = if 0 < (sheetAt s n).inUse then .next (refuse .openSheet tag .busy s)
      else if sheetState (sheetAt s n).body = .opened then .next (refuse .openSheet tag .state s)
      else .next (answer .openSheet tag .ok .none (setBody n (.opened h []) s)) := by
  simp [exec, execOpenSheet, header]

theorem openSheet_cases {f : HeaderFields} {h : Header} (header : headerOf f = some h) (tag : Nat) (n : Fin 6) (s : State) :
    ((sheetAt s n).inUse = 0 → sheetState (sheetAt s n).body ≠ .opened →
      exec (.openSheet tag (n.val + 1) f) s = .next (answer .openSheet tag .ok .none { s with
        ss := s.ss.set n.val { body := .opened h [], inUse := 0 } }))
    ∧ (0 < (sheetAt s n).inUse → exec (.openSheet tag (n.val + 1) f) s = .next (refuse .openSheet tag .busy s))
    ∧ ((sheetAt s n).inUse = 0 → sheetState (sheetAt s n).body = .opened →
      exec (.openSheet tag (n.val + 1) f) s = .next (refuse .openSheet tag .state s)) := by
  rw [exec_openSheet header]
  refine ⟨fun free closed => ?_, fun used => if_pos used, fun free isOpen => ?_⟩
  · rw [if_neg (by omega), if_neg closed, setBody_eq, free]
  · rw [if_neg (by omega), if_pos isOpen]

theorem exec_appendSegment_taken {n : Fin 6} {h : Header} {l : List Segment} {length marker stop : Nat} {grade : Int}
    {g : Segment} (isOpen : (sheetAt s n).body = .opened h l) (test : appendTest h l length grade marker stop = .inr g)
    (tag : Nat) : exec (.appendSegment tag (n.val + 1) length grade marker stop) s
      = .next (answer .appendSegment tag .ok (.appended l.length (l.length + 1) (totalLength l + length))
          (setBody n (.opened h (l ++ [g])) s)) := by
  simp [exec, execAppendSegment, isOpen, test]

theorem exec_appendSegment_refused {n : Fin 6} {h : Header} {l : List Segment} {length marker stop : Nat} {grade : Int}
    {code : ResultCode} (isOpen : (sheetAt s n).body = .opened h l)
    (test : appendTest h l length grade marker stop = .inl code) (tag : Nat) :
    exec (.appendSegment tag (n.val + 1) length grade marker stop) s = .next (refuse .appendSegment tag code s) := by
  simp [exec, execAppendSegment, isOpen, test]

/-- The bounds of R40 on a segment of a coded marker and stop. -/
theorem segmentOf_eq {m : Marker} {marker : Nat} (coded : markerOf marker = some m) (minGrade total length grade : Nat)
    (stop : Bool) : segmentOf minGrade total length (grade : Int) marker stop.toNat
      = if 1000 ≤ length ∧ length ≤ 500000 ∧ minGrade ≤ grade ∧ grade ≤ 5000 ∧ total + length ≤ 999999 then
          some { length := length, grade := grade, marker := m, stopAtEnd := stop } else none := by
  simp only [segmentOf, coded, markOf_toNat, inRange, Bool.and_eq_true, decide_eq_true_eq, Int.toNat_natCast, and_assoc,
    Nat.cast_le]
  congr 1
  simp only [eq_iff_iff]
  omega

theorem appendTest_held {h : Header} {l : List Segment} {length marker stop : Nat} {grade : Int} {g : Segment}
    (room : l.length < 20) (held : segmentOf h.minGrade (totalLength l) length grade marker stop = some g) :
    appendTest h l length grade marker stop = .inr g := by
  simp [appendTest, segmentCapacity, room, held]

theorem appendTest_outside {h : Header} {l : List Segment} {length marker stop : Nat} {grade : Int}
    (room : l.length < 20) (outside : segmentOf h.minGrade (totalLength l) length grade marker stop = none) :
    appendTest h l length grade marker stop = .inl .badValue := by
  simp [appendTest, segmentCapacity, room, outside]

theorem appendTest_full {h : Header} {l : List Segment} (full : 20 ≤ l.length) (length : Nat) (grade : Int)
    (marker stop : Nat) : appendTest h l length grade marker stop = .inl .full := if_pos full

theorem appendSegment_cases {m : Marker} {h : Header} {l : List Segment} {n : Fin 6} {marker : Nat}
    (isOpen : (sheetAt s n).body = .opened h l) (coded : markerOf marker = some m) (tag length grade : Nat) (stop : Bool) :
    (l.length < 20 → 1000 ≤ length → length ≤ 500000 → h.minGrade ≤ grade → grade ≤ 5000 →
      totalLength l + length ≤ 999999 →
      exec (.appendSegment tag (n.val + 1) length grade marker stop.toNat) s = .next (answer .appendSegment tag .ok
        (.appended l.length (l.length + 1) (totalLength l + length)) { s with
          ss := s.ss.set n.val { sheetAt s n with
            body := .opened h (l ++ [{ length := length, grade := grade, marker := m, stopAtEnd := stop }]) } }))
    ∧ (20 ≤ l.length → exec (.appendSegment tag (n.val + 1) length grade marker stop.toNat) s
        = .next (refuse .appendSegment tag .full s))
    ∧ (l.length < 20 → (length < 1000 ∨ 500000 < length ∨ grade < h.minGrade ∨ 5000 < grade
          ∨ 999999 < totalLength l + length) →
        exec (.appendSegment tag (n.val + 1) length grade marker stop.toNat) s
          = .next (refuse .appendSegment tag .badValue s)) := by
  refine ⟨fun room long short steep flat total => ?_, fun full => ?_, fun room outside => ?_⟩
  · have held := (segmentOf_eq coded h.minGrade (totalLength l) length grade stop).trans
      (if_pos ⟨long, short, steep, flat, total⟩)
    exact exec_appendSegment_taken isOpen (appendTest_held room held) tag
  · exact exec_appendSegment_refused isOpen (appendTest_full full _ _ _ _) tag
  · have outside := (segmentOf_eq coded h.minGrade (totalLength l) length grade stop).trans (if_neg (by omega))
    exact exec_appendSegment_refused isOpen (appendTest_outside room outside) tag

theorem sealSheet_cases (tag : Nat) (n : Fin 6) (h : Header) (l : List Segment) (s : State) :
    ((sheetAt s n).body = .opened h l → l ≠ [] →
      exec (.sealSheet tag (n.val + 1)) s = .next (answer .sealSheet tag .ok (sealSummary l) { s with
        ss := s.ss.set n.val { sheetAt s n with body := .sealed h l } }))
    ∧ ((sheetAt s n).body = .sealed h l →
      exec (.sealSheet tag (n.val + 1)) s = .next (answer .sealSheet tag .ok (sealSummary l) s))
    ∧ ((sheetAt s n).body = .empty ∨ (sheetAt s n).body = .opened h [] →
      exec (.sealSheet tag (n.val + 1)) s = .next (refuse .sealSheet tag .state s)) := by
  refine ⟨fun isOpen held => ?_, fun closed => ?_, ?_⟩
  · simp [exec, execSealSheet, isOpen, held, setBody_eq]
  · simp [exec, execSealSheet, closed]
  · rintro (empty | isOpen)
    · simp [exec, execSealSheet, empty]
    · simp [exec, execSealSheet, isOpen]

theorem exec_readSheet_segment {n : Fin 6} {k : Nat} {c : Contents} (other : k ≠ 255)
    (detail : segmentDetail (segmentsOf (sheetAt s n).body) k = some c) (tag : Nat) :
    exec (.readSheet tag (n.val + 1) k) s = .next (answer .readSheet tag .ok c s) := by
  simp [exec, execReadSheet, headerIndex, other, detail]

theorem exec_readSheet_past {n : Fin 6} {k : Nat} (other : k ≠ 255)
    (detail : segmentDetail (segmentsOf (sheetAt s n).body) k = none) (tag : Nat) :
    exec (.readSheet tag (n.val + 1) k) s = .next (refuse .readSheet tag .badValue s) := by
  simp [exec, execReadSheet, headerIndex, other, detail]

/-- Settles O22: the cases of OPEN_SHEET, APPEND_SEGMENT, SEAL_SHEET and READ_SHEET in turn. -/
theorem sheetRequests : Obligations.SheetRequests := by
  refine ⟨fun tag f h n s header => openSheet_cases header tag n s,
    fun tag length grade marker m stop n h l s isOpen coded => appendSegment_cases isOpen coded tag length grade stop,
    sealSheet_cases, fun tag n s => ⟨?_, fun k g held other => ?_, fun k past other => ?_, fun m k outside => ?_⟩⟩
  · simp [exec, execReadSheet, headerIndex, sheetSummary, totalLength, totalRise]
  · exact exec_readSheet_segment other (by simp [segmentDetail, held, totalLength, totalRise]) tag
  · exact exec_readSheet_past other (by simp [segmentDetail, List.getElem?_eq_none past]) tag
  · simp [exec, execReadSheet, sheetOf_eq_none outside]

/-! ## Arithmetic of the line and the depth -/

/-- The double of a quotient's remainder is no more than the divisor, and equals it only where the half was rounded
away from zero (R2). -/
theorem roundDiv_nearest (n : Int) {d : Nat} (pos : 0 < d) :
    2 * (n - roundDiv n d * d).natAbs ≤ d
    ∧ (2 * (n - roundDiv n d * d).natAbs = d → n.natAbs < (roundDiv n d * d).natAbs) := by
  have bounds (m : Int) : 2 * ((2 * m + d) / (2 * d) * d) ≤ 2 * m + d
      ∧ 2 * m + d < 2 * ((2 * m + d) / (2 * d) * d) + 2 * d := by
    have whole := Int.mul_ediv_add_emod (2 * m + d) (2 * d)
    have low := Int.emod_nonneg (2 * m + d) (b := 2 * d) (by omega)
    have high := Int.emod_lt_of_pos (2 * m + d) (b := 2 * d) (by omega)
    have product : 2 * (d : Int) * ((2 * m + d) / (2 * d)) = 2 * ((2 * m + d) / (2 * d) * d) := by ring
    omega
  unfold roundDiv
  split
  · have := bounds n
    omega
  · have := bounds (-n)
    rw [Int.neg_mul]
    omega

/-- Rounding does not decrease as the dividend grows. -/
theorem roundDiv_mono {m n : Int} {d : Nat} (pos : 0 < d) (h : m ≤ n) : roundDiv m d ≤ roundDiv n d := by
  unfold roundDiv
  have mono {a b : Int} (h : a ≤ b) : (2 * a + d) / (2 * d) ≤ (2 * b + d) / (2 * d) :=
    Int.ediv_le_ediv (by omega) (by omega)
  have nonneg {a : Int} (h : 0 ≤ a) : 0 ≤ (2 * a + d) / (2 * d) := Int.ediv_nonneg (by omega) (by omega)
  split <;> split
  · exact mono h
  · omega
  · have := nonneg (a := -m) (by omega)
    have := nonneg (a := n) (by omega)
    omega
  · have := mono (a := -n) (b := -m) (by omega)
    omega

theorem roundDiv_nonneg {n : Int} (d : Nat) (h : 0 ≤ n) : 0 ≤ roundDiv n d := by
  unfold roundDiv
  rw [if_pos h]
  exact Int.ediv_nonneg (by omega) (by omega)

theorem riseOf_eq (grade length : Nat) : (riseOf grade length : Int) = roundDiv ((grade : Int) * length) 100000 := by
  unfold riseOf
  rw [Int.toNat_of_nonneg (roundDiv_nonneg _ (by omega)), Nat.cast_mul]

theorem designInvert_mono (c : CurrentSegment) {a b : Nat} (h : a ≤ b) : designInvert c a ≤ designInvert c b := by
  unfold designInvert
  exact Int.add_le_add_left (roundDiv_mono (by omega) (Int.mul_le_mul_of_nonneg_left (by omega) (by omega))) _

/-- The drop grows with the mast and the tilt: 98.7 mm at 4,500 mm and 12 degrees (R75). -/
theorem tiltDrop_le {mast : Nat} {t : Int} (short : mast ≤ 4500) (low : -120 ≤ t) (high : t ≤ 120) :
    tiltDrop mast t ≤ 99 := by
  have square : t * t ≤ 14400 := by nlinarith
  have product : (mast : Int) * (t * t) ≤ 4500 * 14400 :=
    Int.mul_le_mul (by omega) square (mul_self_nonneg t) (by omega)
  have rounded : roundDiv ((mast : Int) * (t * t)) 656560 ≤ 99 := roundDiv_mono (by omega) product
  unfold tiltDrop
  omega

/-- Settles O51. -/
theorem roundingTheLineAndTheDrop : Obligations.RoundingTheLineAndTheDrop := by
  refine ⟨fun n d pos => roundDiv_nearest n pos, fun l c st staged => ?_, fun c a b => designInvert_mono c,
    fun mast t => tiltDrop_le⟩
  rw [stagedAfter_eq] at staged
  split at staged
  · cases staged
    refine ⟨rfl, ?_⟩
    show _ = designInvert c (endChainage c)
    rw [designInvert_end, riseOf_eq]
  · cases staged

end Sys2Proof.Proofs
end

section
/-! The loop states (spec/06): strikes outside the window (R101, R103 to R107), the LOST drive and the timers of the loop
(R104, R108, R111, R112). -/

namespace Sys2Proof.Proofs

open Sys2Proof.Machine Sys2Proof.Safety Sys2Proof.Laws

variable {s t u : State} {l : LoopCtx} {q : QStrike} {dir : Direction}

/-! ## Flags and duties -/

theorem eventNumber_lt (e : Event) : eventNumber e < 16 := by unfold eventNumber; split <;> omega

/-- An event that fires leaves the flag of its kind set (R188). -/
theorem flag_fired (e : Event) (time : Time) (c : Nat) (p : Clp) :
    (fireIn e time c p).flags.getLsbD (eventNumber e) = true := by
  rw [fireIn_flags, BitVec.getLsbD_or, Bool.or_eq_true]
  exact .inr (by simp [kindMask, eventNumber_lt e])

/-- A flag that is set stays set when an event fires. -/
theorem flag_kept {p : Clp} {n : Nat} (h : p.flags.getLsbD n = true) (e : Event) (time : Time) (c : Nat) :
    (fireIn e time c p).flags.getLsbD n = true := by
  rw [fireIn_flags, BitVec.getLsbD_or, h, Bool.true_or]

theorem driveOf_eq (dir : Direction) (level : Nat) : driveOf dir level = (if dir = .up then 1 else -1) * (level : Int) := by
  cases dir <;> simp [driveOf]

theorem driveOf_eq_ite (dir : Direction) (level : Nat) :
    driveOf dir level = if dir = .up then (level : Int) else -(level : Int) := by
  cases dir <;> rfl

theorem reversed_reversed (dir : Direction) : reversed (reversed dir) = dir := by cases dir <;> rfl

theorem reversed_ne (dir : Direction) : reversed dir ≠ dir := by cases dir <;> exact nofun

/-! ## What enters each state -/

/-- The part with V handed on and the loop in a state (R96). -/
abbrev driven (v : Int) (l : LoopCtx) (st : LoopState) (s : State) : State :=
  { handOn v s with gl := { v := v, loop := some { l with state := st } } }

theorem handOn_setLoopState (hl : s.gl.loop = some l) (v : Int) (st : LoopState) :
    handOn v (setLoopState st s) = driven v l st s := by
  rw [setLoopState_eq hl]; rfl

theorem setLoopState_handOn (hl : s.gl.loop = some l) (v : Int) (st : LoopState) :
    setLoopState st (handOn v s) = driven v l st s := setLoopState_eq (s := handOn v s) hl st

/-- Entering a search drives the boom at the full level, and BEAM_SEARCH fires (R105). -/
theorem enterSearch_eq (hl : s.gl.loop = some l) (left : SearchFrom) (dir : Direction) :
    enterSearch left dir s = { driven (driveOf dir (fullLevel s.clp.consts)) l (.searching dir (fullLevel s.clp.consts)
        (chainage s) (after s.clock s.clp.consts.searchTime) 0 s.clock) s with
      clp := fireIn (.beamSearch dir left (fullLevel s.clp.consts)) s.clock (chainage s) s.clp } := by
  unfold enterSearch
  dsimp only
  rw [handOn_setLoopState hl]
  rfl

/-- A search turned before its third flip goes the other way at half the level (R107). -/
theorem flipSearch_turns {flips : Nat} (hl : s.gl.loop = some l) (few : flips < 2) (dir : Direction) (level start : Nat)
    (due since : Time) : flipSearch dir level start due flips since s
      = driven (driveOf (reversed dir) (halvedLevel s.clp.consts level)) l
          (.searching (reversed dir) (halvedLevel s.clp.consts level) start due (flips + 1) since) s := by
  unfold flipSearch
  rw [if_neg (by omega)]
  exact handOn_setLoopState hl _ _

theorem flipSearch_third (dir : Direction) (level start : Nat) (due since : Time) (s : State) :
    flipSearch dir level start due 2 since s = enterLost .flips (.searching dir level start due 3 since) s := if_pos rfl.le

theorem startLostDrive_eq (hl : s.gl.loop = some l) (dir : Direction) (level : Nat) :
    startLostDrive dir level s = driven (driveOf dir level) l
      (.lost (some { dir := dir, level := level, due := after s.clock s.clp.consts.searchTime })) s :=
  handOn_setLoopState hl _ _

theorem enterCoasting_eq (hl : s.gl.loop = some l) :
    enterCoasting s = driven 0 l (.coasting (chainage s) s.clock) s := setLoopState_handOn hl _ _

/-- The permit is withdrawn while BEAM is a reason (R169). -/
theorem permitHolds_of_beam (h : s.oq.pause.beam = true) : permitHolds s = false :=
  permitHolds_of_pause (by unfold pauseEmpty; rw [h]; rfl)

/-! ## The strike in hand -/

/-- The part once the Grade Loop has taken the strike in hand (R12). -/
abbrev taken (s : State) : State := { s with sq := { s.sq with toLoop := none } }

theorem exec_gradeLoopStrike (h : s.sq.toLoop = some q) :
    exec .gradeLoopStrike s = .next (formPermit (loopStrike q (taken s))) := by
  show execGradeLoopStrike s = _
  unfold execGradeLoopStrike
  rw [h]

theorem loopStrike_inWindow {b : Int} (hl : s.gl.loop = some l) (act : activeEntry s = some q.entry)
    (hb : q.beam = .inWindow b) : loopStrike q s = computeStrike q b (beamSeen l.state (measuredDepth b s) s) := by
  simp [loopStrike, hl, act, hb]

theorem loopStrike_outside (hl : s.gl.loop = some l) (act : activeEntry s = some q.entry) (points : pointsTo q.beam dir) :
    loopStrike q s = strikeOutside dir l.state s := by
  rcases points with ⟨hb, rfl⟩ | ⟨hb, rfl⟩ <;> simp [loopStrike, hl, act, hb]

theorem exec_strike_outside (h : loopHas q l s) (points : pointsTo q.beam dir) :
    exec .gradeLoopStrike s = .next (formPermit (strikeOutside dir l.state (taken s))) := by
  obtain ⟨hq, hl, act⟩ := h
  rw [exec_gradeLoopStrike hq, loopStrike_outside (s := taken s) hl act points]

theorem strikeOutside_enters {st : LoopState} (h : st = .acquiring ∨ (∃ due, st = .tracking due)
    ∨ (∃ start since, st = .coasting start since)) (dir : Direction) (s : State) :
    strikeOutside dir st s = enterSearch (searchFrom st) dir s := by
  rcases h with rfl | ⟨_, rfl⟩ | ⟨_, _, rfl⟩ <;> rfl

theorem strikeOutside_other (dir : Direction) (level start flips : Nat) (due since : Time) (s : State) :
    strikeOutside dir (.searching (reversed dir) level start due flips since) s
      = flipSearch (reversed dir) level start due flips since s := if_neg (reversed_ne dir)

/-- Settles O27. -/
theorem strikeOutsideTheWindow : Obligations.StrikeOutsideTheWindow := by
  intro q l dir s h points
  have hl : (taken s).gl.loop = some l := h.2.1
  rw [exec_strike_outside h points]
  refine ⟨fun enters => ⟨_, rfl, ?_⟩, fun level start due flips since hst => ?_,
    fun level start due flips since hst few => ⟨_, rfl, ?_⟩, fun level start due since hst => ⟨_, rfl, ?_⟩⟩
  · rw [strikeOutside_enters enters, enterSearch_eq hl]
    exact ⟨rfl, driveOf_eq_ite dir _, flag_fired (.beamSearch ..) _ _ _, rfl, portKept_fireIn rfl (portKept_of_eq rfl)⟩
  · rw [hst]
    exact congrArg (fun u => Host.Outcome.next (formPermit u)) (if_pos rfl)
  · rw [hst, strikeOutside_other, flipSearch_turns hl few, reversed_reversed]
    exact ⟨rfl, driveOf_eq dir _, rfl⟩
  · rw [hst, strikeOutside_other, flipSearch_third, enterLost_eq hl]
    exact ⟨rfl, rfl, rfl, rfl, permitHolds_of_beam rfl, flag_fired (.beamLost ..) _ _ _, rfl, rfl, rfl, rfl, rfl,
      portKept_fireIn rfl (portKept_of_eq rfl)⟩

/-! ## The timers of the loop -/

theorem exec_beamAgeTimerExpiry {due : Time} (hl : s.gl.loop = some l) (hst : l.state = .tracking due) :
    exec .beamAgeTimerExpiry s = .next (formPermit (driven 0 l (.coasting (chainage s) s.clock) s)) := by
  rw [← enterCoasting_eq hl]
  show execBeamAgeTimerExpiry s = _
  simp only [execBeamAgeTimerExpiry, hl, hst]

theorem exec_searchTimerExpiry {level start flips : Nat} {due since : Time} (hl : s.gl.loop = some l)
    (hst : l.state = .searching dir level start due flips since) :
    exec .searchTimerExpiry s = .next (formPermit (enterLost .time l.state s)) := by
  show execSearchTimerExpiry s = _
  simp only [execSearchTimerExpiry, hl, hst]

theorem exec_lostDriveTimerExpiry {d : LostDrive} (hl : s.gl.loop = some l) (hst : l.state = .lost (some d)) :
    exec .lostDriveTimerExpiry s = .next (driven 0 l (.lost none) s) := by
  rw [← handOn_setLoopState hl]
  show execLostDriveTimerExpiry s = _
  simp only [execLostDriveTimerExpiry, hl, hst]

/-- Settles O28: the three strikes in LOST, then the three timers. -/
theorem lostDriveAndLoopTimers : Obligations.LostDriveAndLoopTimers := by
  refine ⟨fun q l dir s h points => ?_, fun l s hl => ⟨fun due hst => ⟨_, exec_beamAgeTimerExpiry hl hst, rfl,
    (handOn_zero_duties s).1, (handOn_zero_duties s).2, rfl⟩, fun dir level start due flips since hst =>
    ⟨_, exec_searchTimerExpiry hl hst, ?_⟩, fun d hst => ⟨_, exec_lostDriveTimerExpiry hl hst, rfl,
    (handOn_zero_duties s).1, (handOn_zero_duties s).2, rfl⟩⟩⟩
  · have hl : (taken s).gl.loop = some l := h.2.1
    rw [exec_strike_outside h points]
    refine ⟨fun hst => ⟨_, rfl, ?_⟩, fun d hst same => ?_, fun d hst other => ⟨_, rfl, ?_⟩⟩
    · rw [hst]
      show (formPermit (startLostDrive dir _ (taken s))).gl = _ ∧ _
      rw [startLostDrive_eq hl]
      refine ⟨?_, rfl⟩
      rw [← driveOf_eq_ite]
      rfl
    · rw [hst]
      show _ = Host.Outcome.next (formPermit _)
      refine congrArg (fun u => Host.Outcome.next (formPermit u)) ((if_pos same).trans ?_)
      exact setLoopState_eq hl _
    · have turned : strikeOutside dir l.state (taken s) = startLostDrive dir (halvedLevel s.clp.consts d.level) (taken s) := by
        rw [hst]
        exact if_neg (by rw [other]; exact reversed_ne dir)
      rw [turned, startLostDrive_eq hl]
      exact ⟨rfl, driveOf_eq dir _, rfl⟩
  · rw [enterLost_eq hl]
    exact ⟨rfl, rfl, permitHolds_of_beam rfl, (handOn_zero_duties s).1, (handOn_zero_duties s).2,
      flag_fired (.beamLost ..) _ _ _, rfl, portKept_fireIn rfl (portKept_of_eq rfl)⟩

end Sys2Proof.Proofs
end

section
/-! The computation of a strike (spec/05): target, window, decision, drive, holds and limits (R74 to R96), and the beam it
regains (R110, R113). -/

namespace Sys2Proof.Proofs

open Sys2Proof.Machine Sys2Proof.Safety Sys2Proof.Laws

variable {s t u : State} {l : LoopCtx} {q : QStrike}

/-! ## The pieces of the drive -/

theorem pushError_of_room {window : List Int} (room : window.length < 4) (e : Int) : pushError window e = window ++ [e] := by
  unfold pushError
  exact if_neg (by rw [List.length_append, List.length_singleton]; omega)

theorem pushError_of_full {oldest : Int} {rest : List Int} (full : rest.length = 3) (e : Int) :
    pushError (oldest :: rest) e = rest ++ [e] := by
  unfold pushError
  exact if_pos (by simp [full])

theorem decide3_eq_lower (shallow deep : Nat) (ef : Int) : decide3 shallow deep ef = .lower ↔ ef < -(shallow : Int) := by
  unfold decide3
  split
  · simp; omega
  · split <;> simp <;> omega

theorem decide3_eq_raise (shallow deep : Nat) (ef : Int) : decide3 shallow deep ef = .raise ↔ (deep : Int) < ef := by
  unfold decide3
  split
  · simp; omega
  · split <;> simp <;> omega

theorem decide3_eq_hold (shallow deep : Nat) (ef : Int) :
    decide3 shallow deep ef = .hold ↔ -(shallow : Int) ≤ ef ∧ ef ≤ deep := by
  unfold decide3
  split
  · simp; omega
  · split <;> simp <;> omega

/-- The magnitude as the statements write it: with the excess an integer (R88). -/
theorem magnitude_eq (k : Constants) (settle : Nat) {excess : Int} (pos : 0 ≤ excess) :
    (magnitude k settle excess.toNat : Int)
      = min (k.driveMax : Int) (k.driveMin + k.gain * excess / (if settle = 0 then 10 else 20)) := by
  unfold magnitude
  obtain ⟨n, rfl⟩ := Int.eq_ofNat_of_zero_le pos
  rw [Int.toNat_natCast]
  split <;> push_cast <;> rfl

theorem slewLevel_reversing {v wanted : Int} (slew : Nat) (h : wanted * v < 0) : slewLevel slew v wanted = 0 := by
  have signs := mul_neg_iff.mp h
  unfold slewLevel
  rw [if_neg (by omega), if_pos (by omega)]

theorem not_reversing {v wanted : Int} (h : 0 ≤ wanted * v) : ¬ ((0 < wanted ∧ v < 0) ∨ (wanted < 0 ∧ 0 < v)) := by
  rintro (⟨hw, hv⟩ | ⟨hw, hv⟩)
  · exact absurd (mul_neg_of_pos_of_neg hw hv) (by omega)
  · exact absurd (mul_neg_of_neg_of_pos hw hv) (by omega)

theorem slewLevel_followed {v wanted : Int} (slew : Nat) (same : 0 ≤ wanted * v) (less : wanted.natAbs ≤ v.natAbs) :
    slewLevel slew v wanted = wanted := by
  unfold slewLevel
  by_cases zero : wanted = 0
  · rw [if_pos zero, zero]
  · rw [if_neg zero, if_neg (not_reversing same), if_pos less]

/-- A level that grows does so by no more than SLEW (R90). -/
theorem slewLevel_grows {v wanted : Int} (slew : Nat) (same : 0 ≤ wanted * v) (more : v.natAbs < wanted.natAbs) :
    slewLevel slew v wanted = wanted.sign * ((min wanted.natAbs (v.natAbs + slew) : Nat) : Int) := by
  unfold slewLevel
  rw [if_neg (by omega), if_neg (not_reversing same), if_neg (by omega), Nat.cast_min, Nat.cast_add]
  dsimp only
  split
  · rw [Int.sign_eq_one_of_pos ‹_›, one_mul]
  · rw [Int.sign_eq_neg_one_of_neg (by omega), neg_one_mul]

theorem slewLevel_bounds (slew : Nat) (v wanted : Int) :
    (slewLevel slew v wanted).natAbs ≤ wanted.natAbs ∧ 0 ≤ slewLevel slew v wanted * wanted := by
  rcases lt_or_ge (wanted * v) 0 with h | h
  · rw [slewLevel_reversing slew h]
    simp
  · rcases Nat.lt_or_ge v.natAbs wanted.natAbs with more | less
    · rw [slewLevel_grows slew h more]
      refine ⟨?_, ?_⟩
      · rw [Int.natAbs_mul, Int.natAbs_natCast, Int.natAbs_sign]
        split <;> omega
      · rw [mul_right_comm, Int.sign_mul_self_eq_natAbs]
        positivity
    · rw [slewLevel_followed slew h less]
      exact ⟨le_rfl, mul_self_nonneg wanted⟩

theorem behindHighWater_iff (kind : LoopKind) (chw : Option Nat) (c : Nat) :
    behindHighWater kind chw c = true ↔ kind = .dig ∧ ∃ high, chw = some high ∧ c + 50 < high := by
  cases kind with
  | dig => cases chw <;> simp [behindHighWater]
  | hold => simp [behindHighWater]
  | plunge => simp [behindHighWater]

theorem limitOf_eq_bottom (k : Constants) (stroke : Nat) (v : Int) :
    limitOf k stroke v = .bottom ↔ stroke ≤ k.strokeBottom ∧ v < 0 := by
  unfold limitOf
  split
  · simp; omega
  · split <;> simp <;> omega

theorem limitOf_eq_top (k : Constants) (stroke : Nat) (v : Int) :
    limitOf k stroke v = .top ↔ k.strokeTop ≤ stroke ∧ 0 < v := by
  unfold limitOf
  split
  · simp; omega
  · split <;> simp <;> omega

theorem tiltNow_eq (s : State) :
    tiltNow s = max (-120) (min 120 (roundDiv (if s.sm.isSome then 0 else s.os.tilt) 10)) := rfl

/-- A drop is no negative number, so nothing of the quotient is lost (R75). -/
theorem tiltDrop_eq (mast : Nat) (t : Int) : (tiltDrop mast t : Int) = roundDiv ((mast : Int) * (t * t)) 656560 :=
  Int.toNat_of_nonneg (roundDiv_nonneg _ (mul_nonneg (by omega) (mul_self_nonneg t)))

/-- Settles O30. -/
theorem decisionAndDrive : Obligations.DecisionAndDrive := by
  refine ⟨fun b s => ⟨tiltNow_eq s, tiltDrop_eq _ _, ?_⟩, fun window e => ⟨fun room => pushError_of_room room e, ?_, rfl⟩,
    fun shallow deep ef => ⟨decide3_eq_lower _ _ _, decide3_eq_raise _ _ _, decide3_eq_hold _ _ _⟩,
    fun k shallow deep settle ef => ⟨fun above => ?_, fun below => ?_, rfl⟩,
    fun slew v wanted => ⟨slewLevel_reversing slew, slewLevel_followed slew, fun same far => ?_, fun same more near => ?_,
      slewLevel_bounds slew v wanted⟩,
    fun d n => ⟨by cases d <;> rfl, rfl, rfl⟩, behindHighWater_iff,
    fun k stroke v => ⟨limitOf_eq_bottom k stroke v, limitOf_eq_top k stroke v⟩⟩
  · unfold measuredDepth
    rw [tiltDrop_eq, tiltNow_eq]
  · rintro oldest rest rfl full
    exact pushError_of_full full e
  · exact magnitude_eq k settle (by omega)
  · exact congrArg (- ·) (magnitude_eq k settle (by omega))
  · rw [slewLevel_grows slew same (by omega), Nat.min_eq_right (by omega)]
  · rw [slewLevel_grows slew same more, Nat.min_eq_left near]
    exact Int.sign_mul_natAbs wanted

end Sys2Proof.Proofs
end

section
/-! The step of a strike that is computed (R73, R79, R83 to R96, R101, R102): with a target, without one, the target of an
unlatched HOLD (R80), and the beam it regains (R110, R113). -/

namespace Sys2Proof.Proofs

open Sys2Proof.Machine Sys2Proof.Safety Sys2Proof.Laws

variable {s t u : State} {l : LoopCtx} {q : QStrike} {b : Int}

/-! ## REACH (R92, R95) -/

/-- The mark REACH after a decision and a limit. -/
def reachMark (d : Decision) (limit : LimitMark) (s : State) : Bool :=
  if limit = .bottom then true else if d = .lower then s.oq.pause.reach else false

/-- The port once REACH is set or kept: REACH_LIMIT fires when the bottom limit finds it absent. -/
def reachClp (limit : LimitMark) (cut : Int) (s : State) : Clp :=
  if limit = .bottom ∧ s.oq.pause.reach = false then fireIn (.reachLimit (strokeSeen s) cut) s.clock (chainage s) s.clp
  else s.clp

theorem setReach_eq (cut : Int) (s : State) :
    setReach cut s = { s with oq := { s.oq with pause := { s.oq.pause with reach := true } }
                              clp := reachClp .bottom cut s } := by
  unfold setReach reachClp
  cases h : s.oq.pause.reach
  · rfl
  · rfl

theorem reachAfter_eq (d : Decision) (limit : LimitMark) (cut : Int) (s : State) :
    reachAfter d limit cut s = { s with
      oq := { s.oq with pause := { s.oq.pause with reach := reachMark d limit s } }, clp := reachClp limit cut s } := by
  cases limit with
  | bottom => exact setReach_eq cut s
  | none => cases d <;> rfl
  | top => cases d <;> rfl

theorem reachClp_of_ne {limit : LimitMark} (h : limit ≠ .bottom) (cut : Int) (s : State) : reachClp limit cut s = s.clp :=
  if_neg fun both => h both.1

theorem reachClp_fired {cut : Int} (h : s.oq.pause.reach = false) :
    reachClp .bottom cut s = fireIn (.reachLimit (strokeSeen s) cut) s.clock (chainage s) s.clp := if_pos ⟨rfl, h⟩

theorem portKept_reachClp (limit : LimitMark) (cut : Int) (ht : t.clp = reachClp limit cut s) : portKept s t := by
  unfold reachClp at ht
  split at ht
  · exact portKept_fireIn ht (portKept_of_eq rfl)
  · exact portKept_of_eq ht

/-! ## The step with a target and without one -/

/-- The window a strike leaves (R83). -/
abbrev windowWith (depth target : Int) (l : LoopCtx) : List Int := pushError l.window (depth - target)

/-- What a strike of a target decides (R84, R86). -/
abbrev decided (depth target : Int) (l : LoopCtx) : Decision :=
  decide3 l.shallow l.deep (filteredError (windowWith depth target l))

/-- The wanted level of a strike of a target (R88). -/
abbrev wantedBy (depth target : Int) (l : LoopCtx) (s : State) : Int :=
  wantedLevel s.clp.consts l.shallow l.deep l.settle (decided depth target l)
    (filteredError (windowWith depth target l))

/-- The slewed level of a strike of a target (R90). -/
abbrev slewedBy (depth target : Int) (l : LoopCtx) (s : State) : Int :=
  slewLevel s.clp.consts.slew s.gl.v (wantedBy depth target l s)

/-- The level the reverse-travel hold leaves (R91). -/
abbrev heldBy (q : QStrike) (depth target : Int) (l : LoopCtx) (s : State) : Int :=
  if behindHighWater l.kind s.cc.chw q.chainage then 0 else slewedBy depth target l s

/-- The stroke limit a strike meets (R92, R93). -/
abbrev limitBy (q : QStrike) (depth target : Int) (l : LoopCtx) (s : State) : LimitMark :=
  limitOf s.clp.consts (strokeSeen s) (heldBy q depth target l s)

/-- The level a strike hands on (R96). -/
abbrev finalBy (q : QStrike) (depth target : Int) (l : LoopCtx) (s : State) : Int :=
  if limitBy q depth target l s = .none then heldBy q depth target l s else 0

/-- The record a strike of a target leaves (R97). -/
abbrev recordBy (q : QStrike) (depth target : Int) (line : Option LinePart) (l : LoopCtx) (s : State) : DecisionRecord :=
  { chainage := q.chainage, tilt := tiltNow s, drop := tiltDrop s.clp.consts.mastLength (tiltNow s), depth := depth
    line := line
    errors := some { target := target, error := depth - target
                     filtered := filteredError (windowWith depth target l), count := (windowWith depth target l).length }
    decision := decided depth target l, wanted := wantedBy depth target l s, slewed := slewedBy depth target l s
    final := finalBy q depth target l s, settle := l.settle - 1
    reverseHold := behindHighWater l.kind s.cc.chw q.chainage, limit := limitBy q depth target l s }

/-- The loop a strike of a target leaves. -/
abbrev loopBy (q : QStrike) (depth target : Int) (line : Option LinePart) (l : LoopCtx) (s : State) : LoopCtx :=
  { l with window := windowWith depth target l, settle := l.settle - 1
           holdCount := nextHoldCount l.kind (decided depth target l) l.holdCount
           record := some (recordBy q depth target line l s) }

/-- The part a strike of a target leaves. -/
abbrev targetStep (q : QStrike) (depth target : Int) (line : Option LinePart) (l : LoopCtx) (s : State) : State :=
  { handOn (finalBy q depth target l s) s with
    gl := { v := finalBy q depth target l s, loop := some (loopBy q depth target line l s) }
    oq := { s.oq with pause := { s.oq.pause with reach := reachMark (decided depth target l) (limitBy q depth target l s) s } }
    clp := reachClp (limitBy q depth target l s) (heldBy q depth target l s) s }

theorem reachClp_consts (limit : LimitMark) (cut : Int) (s : State) : (reachClp limit cut s).consts = s.clp.consts := by
  unfold reachClp
  split
  · rw [fireIn_consts]
  · rfl

theorem nextHoldCount_le (kind : LoopKind) (d : Decision) (n : Nat) : nextHoldCount kind d n ≤ n + 1 := by
  unfold nextHoldCount
  split <;> omega

/-- A strike of a target, but the one that settles a PLUNGE (R83 to R96). -/
theorem strikeWithTarget_eq (hl : s.gl.loop = some l) (unsettled : l.kind = .plunge → l.holdCount < 2) (q : QStrike)
    (depth target : Int) (line : Option LinePart) :
    strikeWithTarget q depth target line l s = targetStep q depth target line l s := by
  have few : ¬ (l.kind = .plunge ∧ 3 ≤ nextHoldCount l.kind (decided depth target l) l.holdCount) := by
    rintro ⟨plunge, three⟩
    have := unsettled plunge
    have := nextHoldCount_le l.kind (decided depth target l) l.holdCount
    omega
  unfold strikeWithTarget
  dsimp only
  rw [if_neg few, reachAfter_eq, modifyLoop_eq (l := l) (by exact hl)]
  unfold handOn
  dsimp only
  rw [reachClp_consts]
  rfl

/-- The part a strike without a target leaves (R79). -/
abbrev targetlessStep (q : QStrike) (depth : Int) (l : LoopCtx) (s : State) : State :=
  { handOn 0 s with gl := { v := 0, loop := some { l with record := some {
      chainage := q.chainage, tilt := tiltNow s, drop := tiltDrop s.clp.consts.mastLength (tiltNow s)
      depth := depth, line := none, errors := none, decision := .none, wanted := 0, slewed := 0, final := 0
      settle := l.settle, reverseHold := false, limit := .none } } } }

theorem strikeWithoutTarget_eq (hl : s.gl.loop = some l) (q : QStrike) (depth : Int) :
    strikeWithoutTarget q depth l s = targetlessStep q depth l s := modifyLoop_eq (s := handOn 0 s) hl _

/-! ## The latching of an unlatched HOLD (R80) -/

theorem latchTarget_latched (hl : s.gl.loop = some l) (h : l.target ≠ .unlatched) (d : Int) : latchTarget d s = s := by
  unfold latchTarget
  rw [hl]
  cases ht : l.target with
  | unlatched => exact absurd ht h
  | _ => simp [ht]

theorem latchTarget_unlatched (hl : s.gl.loop = some l) (h : l.target = .unlatched) (d : Int) :
    latchTarget d s = { s with
      gl := { s.gl with loop := some (cleared s.clp.consts { l with target := .latched d }) } } := by
  have latched := modifyLoop_eq hl fun x => { x with target := .latched d }
  unfold latchTarget
  simp only [hl, h, latched]
  rfl

/-! ## The whole computation -/

/-- The port at a computation: TILT_CLAMP fires when the clamp changes the tilt (R74). -/
def tiltClp (user : TiltUser) (s : State) : Clp :=
  if tiltNow s = tiltTenths (tiltSample s) then s.clp
  else fireIn (.tiltClamp (tiltSample s) (tiltNow s) user) s.clock (chainage s) s.clp

theorem fireTiltClamp_eq (user : TiltUser) (s : State) : fireTiltClamp user s = { s with clp := tiltClp user s } := by
  unfold fireTiltClamp tiltClp
  split <;> rfl

theorem tiltClp_unclamped (h : tiltUnclamped s) (user : TiltUser) : tiltClp user s = s.clp := if_pos h

theorem fireTiltClamp_unclamped (h : tiltUnclamped s) (user : TiltUser) : fireTiltClamp user s = s := if_pos h

/-- A strike that reaches a target (R78 to R80). -/
theorem computeStrike_target {l' : LoopCtx} {target : Int} {line : Option LinePart}
    (latched : latchTarget (measuredDepth b s) (fireTiltClamp .gradeLoop s) = u) (hl : u.gl.loop = some l')
    (reached : strikeTarget q l' u = some (target, line)) :
    computeStrike q b s = strikeWithTarget q (measuredDepth b s) target line l' u := by
  unfold computeStrike
  dsimp only
  rw [latched]
  simp only [hl, reached]

theorem computeStrike_targetless {l' : LoopCtx}
    (latched : latchTarget (measuredDepth b s) (fireTiltClamp .gradeLoop s) = u) (hl : u.gl.loop = some l')
    (reached : strikeTarget q l' u = none) :
    computeStrike q b s = strikeWithoutTarget q (measuredDepth b s) l' u := by
  unfold computeStrike
  dsimp only
  rw [latched]
  simp only [hl, reached]

/-- A strike with its target latched or given, and the tilt in range. -/
theorem computeStrike_plain {target : Int} {line : Option LinePart} (unclamped : tiltUnclamped s)
    (hl : s.gl.loop = some l) (h : l.target ≠ .unlatched) (reached : strikeTarget q l s = some (target, line))
    (unsettled : l.kind = .plunge → l.holdCount < 2) :
    computeStrike q b s = targetStep q (measuredDepth b s) target line l s := by
  rw [computeStrike_target (by rw [fireTiltClamp_unclamped unclamped, latchTarget_latched hl h]) hl reached,
    strikeWithTarget_eq hl unsettled]

theorem computeStrike_plain_targetless (unclamped : tiltUnclamped s) (hl : s.gl.loop = some l) (h : l.target ≠ .unlatched)
    (reached : strikeTarget q l s = none) :
    computeStrike q b s = targetlessStep q (measuredDepth b s) l s := by
  rw [computeStrike_targetless (by rw [fireTiltClamp_unclamped unclamped, latchTarget_latched hl h]) hl reached,
    strikeWithoutTarget_eq hl]

/-! ## The beam seen -/

theorem exec_strike_inWindow (h : loopHas q l s) (hb : q.beam = .inWindow b) :
    exec .gradeLoopStrike s
      = .next (formPermit (computeStrike q b (beamSeen l.state (measuredDepth b s) (taken s)))) := by
  obtain ⟨hq, hl, act⟩ := h
  rw [exec_gradeLoopStrike hq, loopStrike_inWindow (s := taken s) hl act hb]
  rfl

/-- The loop context once a strike is seen: TRACKING with the beam-age timer started (R101, R102). -/
abbrev tracked (l : LoopCtx) (s : State) : LoopCtx :=
  { l with state := .tracking (s.clock + BitVec.ofNat 32 s.clp.consts.lossTime) }

/-- The part once a strike that finds the loop ACQUIRING or TRACKING is seen. -/
abbrev seen (l : LoopCtx) (s : State) : State :=
  { s with gl := { s.gl with loop := some (tracked l s) }
           oq := { s.oq with pause := { s.oq.pause with beam := if l.state = .acquiring then false else s.oq.pause.beam } } }

theorem beamSeen_eq {due : Time} (hl : s.gl.loop = some l) (h : l.state = .tracking due ∨ l.state = .acquiring) (d : Int) :
    beamSeen l.state d s = seen l s := by
  have set := setLoopState_eq hl (trackingNow s)
  rcases h with h | h
  · rw [h]
    show setLoopState (trackingNow s) s = _
    rw [set, seen, h, if_neg nofun]
    rfl
  · rw [h]
    show removeBeam (setLoopState (trackingNow s) s) = _
    rw [set, seen, h, if_pos rfl]
    rfl

/-- Settles O24. -/
theorem trackingStrikeIsComputed : Obligations.TrackingStrikeIsComputed := by
  intro q b T line l due s h hb found unclamped latched reached unsettled k window ef d wanted slewed hold held limit
    final
  refine ⟨_, exec_strike_inWindow h hb, ?_⟩
  have hl : (taken s).gl.loop = some l := h.2.1
  rw [beamSeen_eq hl found, computeStrike_plain (s := seen l (taken s)) (l := tracked l s) (target := T) (line := line)
    unclamped rfl latched reached unsettled]
  refine ⟨rfl, rfl, handOn_raiseDuty final s, handOn_lowerDuty final s, rfl, rfl, fun bottom absent => ?_, rfl, rfl, ?_⟩
  · show (reachClp limit held (seen l (taken s))).flags.getLsbD 12 = true
    rw [bottom, reachClp_fired (s := seen l (taken s)) absent]
    exact flag_fired (.reachLimit ..) _ _ _
  · exact portKept_reachClp limit held (s := seen l (taken s)) rfl

end Sys2Proof.Proofs
end

section
/-! The beam regained (R110, R113), the target of a strike (R54, R55, R77 to R79) and the strikes finished without effect
(R72, R73). -/

namespace Sys2Proof.Proofs

open Sys2Proof.Machine Sys2Proof.Safety Sys2Proof.Laws

variable {s t u : State} {l : LoopCtx} {q : QStrike} {b : Int}

/-! ## The beam regained -/

/-- The part once the beam is regained (R110, R113). -/
abbrev regained (l : LoopCtx) (resume : Bool) (p : Clp) (s : State) : State :=
  { s with gl := { s.gl with loop := some (cleared s.clp.consts (tracked l s)) }
           oq := { s.oq with pause := { s.oq.pause with beam := false, resumeWait := resume } }, clp := p }

theorem regained_core (hl : s.gl.loop = some l) :
    removeBeam (clearWindow (setLoopState (trackingNow s) s)) = regained l s.oq.pause.resumeWait s.clp s := by
  rw [setLoopState_eq hl, clearWindow_eq (l := tracked l s) (by rfl)]
  rfl

/-- Regaining the beam: RESUME_WAIT is set from LOST alone, and BEAM_REGAINED fires but from a coast. -/
theorem beamSeen_regain (hl : s.gl.loop = some l)
    (h : (∃ start since, l.state = .coasting start since)
      ∨ (∃ dir level start due flips since, l.state = .searching dir level start due flips since)
      ∨ (∃ drive, l.state = .lost drive)) (d : Int) :
    ∃ resume p, beamSeen l.state d s = regained l resume p s ∧ portKept s { s with clp := p }
      ∧ ((∃ drive, l.state = .lost drive) → resume = true)
      ∧ ((∀ drive, l.state ≠ .lost drive) → resume = s.oq.pause.resumeWait)
      ∧ ((∀ start since, l.state ≠ .coasting start since) → p.flags.getLsbD 7 = true) := by
  have core := regained_core hl
  rcases h with ⟨start, since, h⟩ | ⟨dir, level, start, due, flips, since, h⟩ | ⟨drive, h⟩
  · refine ⟨_, _, by rw [h]; exact core, portKept_of_eq rfl, ?_, fun _ => rfl, fun other => absurd h (other _ _)⟩
    rintro ⟨drive, lost⟩
    rw [h] at lost
    cases lost
  · refine ⟨_, _, ?_, portKept_fireIn rfl (portKept_of_eq rfl), ?_, fun _ => rfl,
      fun _ => flag_fired (.beamRegained (loopName l.state) s.oq.pause.resumeWait d) s.clock (chainage s) s.clp⟩
    · rw [h]
      show fire _ (removeBeam (clearWindow (setLoopState (trackingNow s) s))) = _
      rw [core]
      rfl
    · rintro ⟨drive, lost⟩
      rw [h] at lost
      cases lost
  · refine ⟨true, _, ?_, portKept_fireIn rfl (portKept_of_eq rfl), fun _ => rfl, fun other => absurd h (other _),
      fun _ => flag_fired (.beamRegained .lost true d) s.clock (chainage s) s.clp⟩
    rw [h]
    show fire _ (withPause _ (removeBeam (clearWindow (setLoopState (trackingNow s) s)))) = _
    rw [core]
    rfl

/-- The part at the computation of a strike, with the loop as the target stage leaves it. -/
abbrev atTarget (l : LoopCtx) (s : State) : State :=
  { s with gl := { s.gl with loop := some l }, clp := tiltClp .gradeLoop s }

theorem tiltClp_consts (user : TiltUser) (s : State) : (tiltClp user s).consts = s.clp.consts := by
  unfold tiltClp
  split
  · rfl
  · rw [fireIn_consts]

/-- The target stage latches an unlatched target and leaves any other (R80). -/
theorem latchTarget_cases (hl : s.gl.loop = some l) (d : Int) :
    ∃ l1, latchTarget d (fireTiltClamp .gradeLoop s) = atTarget l1 s ∧ l1.state = l.state ∧ l1.kind = l.kind
      ∧ l1.window.length ≤ l.window.length ∧ l1.holdCount ≤ l.holdCount := by
  rw [fireTiltClamp_eq]
  by_cases h : l.target = .unlatched
  · rw [latchTarget_unlatched (s := { s with clp := tiltClp .gradeLoop s }) hl h]
    exact ⟨_, rfl, rfl, rfl, Nat.zero_le _, Nat.zero_le _⟩
  · rw [latchTarget_latched (s := { s with clp := tiltClp .gradeLoop s }) hl h]
    refine ⟨l, ?_, rfl, rfl, le_rfl, le_rfl⟩
    rw [atTarget, ← hl]

/-- A computed strike but the one that settles a PLUNGE makes the step of its target, or the one without. -/
theorem computeStrike_cases (hl : s.gl.loop = some l) (unsettled : l.kind = .plunge → l.holdCount < 2) (q : QStrike) (b : Int) :
    ∃ l1, l1.state = l.state ∧ l1.window.length ≤ l.window.length
      ∧ ((∃ target line, computeStrike q b s = targetStep q (measuredDepth b s) target line l1 (atTarget l1 s))
        ∨ computeStrike q b s = targetlessStep q (measuredDepth b s) l1 (atTarget l1 s)) := by
  obtain ⟨l1, latched, state, kind, window, count⟩ := latchTarget_cases hl (measuredDepth b s)
  refine ⟨l1, state, window, ?_⟩
  cases reached : strikeTarget q l1 (atTarget l1 s) with
  | some x =>
    refine .inl ⟨x.1, x.2, ?_⟩
    rw [computeStrike_target latched rfl reached]
    exact strikeWithTarget_eq rfl (fun plunge => count.trans_lt (unsettled (kind ▸ plunge))) q _ _ _
  | none =>
    refine .inr ?_
    rw [computeStrike_targetless latched rfl reached]
    exact strikeWithoutTarget_eq rfl q _

/-- What a computed strike that ends no operation leaves as it was. -/
structure Computed (l : LoopCtx) (s u : State) : Prop where
  state : u.gl.loop.map (·.state) = some l.state
  window : ∀ x, u.gl.loop = some x → x.window.length ≤ l.window.length + 1
  pause : u.oq.pause = { s.oq.pause with reach := u.oq.pause.reach }
  flags : ∀ n, s.clp.flags.getLsbD n = true → u.clp.flags.getLsbD n = true
  port : portKept s u
  frame : u = { s with gl := u.gl, os := u.os, sm := u.sm, clp := u.clp, oq := { s.oq with pause := u.oq.pause } }

theorem pushError_length (window : List Int) (e : Int) : (pushError window e).length ≤ window.length + 1 := by
  unfold pushError
  dsimp only
  split
  · rw [List.length_drop, List.length_append, List.length_singleton]; omega
  · rw [List.length_append, List.length_singleton]

theorem flag_tiltClp {n : Nat} (h : s.clp.flags.getLsbD n = true) (user : TiltUser) :
    (tiltClp user s).flags.getLsbD n = true := by
  unfold tiltClp
  split
  · exact h
  · exact flag_kept h _ _ _

theorem flag_reachClp {n : Nat} (h : s.clp.flags.getLsbD n = true) (limit : LimitMark) (cut : Int) :
    (reachClp limit cut s).flags.getLsbD n = true := by
  unfold reachClp
  split
  · exact flag_kept h _ _ _
  · exact h

theorem portKept_tiltClp (user : TiltUser) (ht : t.clp = tiltClp user s) : portKept s t := by
  unfold tiltClp at ht
  split at ht
  · exact portKept_of_eq ht
  · exact portKept_fireIn ht (portKept_of_eq rfl)

theorem portKept_trans (h : portKept s t) (h' : portKept t u) : portKept s u := by
  obtain ⟨a, b, c, d, e, f, g⟩ := h
  obtain ⟨a', b', c', d', e', f', g'⟩ := h'
  exact ⟨a'.trans a, b'.trans b, c'.trans c, d'.trans d, e'.trans e, f'.trans f, g'.trans g⟩

theorem computed_of_computeStrike (hl : s.gl.loop = some l) (unsettled : l.kind = .plunge → l.holdCount < 2) (q : QStrike)
    (b : Int) : Computed l s (computeStrike q b s) := by
  obtain ⟨l1, state, window, ⟨target, line, step⟩ | step⟩ := computeStrike_cases hl unsettled q b
  · rw [step]
    refine ⟨congrArg some state, ?_, rfl, fun n set => flag_reachClp (s := atTarget l1 s) (flag_tiltClp set _) _ _,
      portKept_trans (portKept_tiltClp (t := atTarget l1 s) .gradeLoop rfl)
        (portKept_reachClp (s := atTarget l1 s) _ _ rfl), rfl⟩
    rintro x ⟨⟩
    exact (pushError_length _ _).trans (Nat.succ_le_succ window)
  · rw [step]
    refine ⟨congrArg some state, ?_, rfl, fun n set => flag_tiltClp set _, portKept_tiltClp .gradeLoop rfl, rfl⟩
    rintro x ⟨⟩
    exact window.trans (Nat.le_succ _)

/-- The permit is withdrawn while RESUME_WAIT is a reason (R113, R169). -/
theorem permitHolds_of_resumeWait (h : s.oq.pause.resumeWait = true) : permitHolds s = false :=
  permitHolds_of_pause (by unfold pauseEmpty; rw [h, Bool.or_true]; rfl)

/-- Settles O29. -/
theorem beamRegained : Obligations.BeamRegained := by
  intro q b l s h hb lost
  obtain ⟨resume, p, seen, port, fromLost, fromOther, fired⟩ :=
    beamSeen_regain (s := taken s) h.2.1 lost (measuredDepth b s)
  have c := computed_of_computeStrike (s := regained l resume p (taken s)) rfl (fun _ => Nat.zero_lt_two) q b
  refine ⟨_, exec_strike_inWindow h hb, ?_⟩
  rw [seen]
  refine ⟨c.state, c.window, congrArg PauseSet.beam c.pause, fun was => ?_, fun other => ?_, fun other => ?_, ?_⟩
  · have waits : (computeStrike q b (regained l resume p (taken s))).oq.pause.resumeWait = true :=
      (congrArg PauseSet.resumeWait c.pause).trans (fromLost was)
    exact ⟨waits, permitHolds_of_resumeWait waits⟩
  · exact (congrArg PauseSet.resumeWait c.pause).trans (fromOther other)
  · exact c.flags 7 (fired other)
  · have sq := congrArg State.sq c.frame
    have pat := congrArg State.pat c.frame
    have cc := congrArg State.cc c.frame
    have te := congrArg State.te c.frame
    have lt := congrArg State.lt c.frame
    have ss := congrArg State.ss c.frame
    have ops := congrArg (fun x => x.oq.ops) c.frame
    exact ⟨congrArg Sq.toLoop sq, pat, cc, te, lt, ss, ops, portKept_trans port c.port⟩

/-! ## The target -/

theorem digTarget_eq {r : RunCtx} {tie : Tie} (hr : s.lt = some r) (e : Fin 8) (ht : (entryAt s e).tie = some tie) (c : Nat) :
    digTarget e c s = (targetAnswer r c).map fun x =>
      (planeElevation (entryAt s e).slope tie x.1 - x.2,
        some { ct := x.1, plane := planeElevation (entryAt s e).slope tie x.1, invert := x.2 }) := by
  unfold digTarget
  simp only [hr, ht]
  cases targetAnswer r c <;> rfl

theorem digTarget_untied {e : Fin 8} (ht : (entryAt s e).tie = none) (c : Nat) : digTarget e c s = none := by
  unfold digTarget
  rw [ht]
  cases s.lt <;> rfl

/-- The Line Tracker answers the strike's own chainage while RUNNING and the frozen one while held (R55). -/
theorem targetAnswer_eq {r : RunCtx} {c ct : Nat} (h : (r.phase = .running ∧ ct = min c (r.cur.cs + r.cur.length))
    ∨ ((r.phase = .segmentHold ∨ r.phase = .ended ∨ (r.phase = .stopping ∧ r.unbenched = false)) ∧ r.frozen = some ct)) :
    targetAnswer r c = some (ct, designInvert r.cur ct) := by
  unfold targetAnswer
  rcases h with ⟨hp, rfl⟩ | ⟨hp | hp | ⟨hp, benched⟩, frozen⟩
  · rw [hp]; rfl
  · simp [hp, frozen]
  · simp [hp, frozen]
  · simp [hp, frozen, benched]

theorem targetAnswer_unbenched {r : RunCtx} (hp : r.phase = .stopping) (unbenched : r.unbenched = true) (c : Nat) :
    targetAnswer r c = none := by
  simp [targetAnswer, hp, unbenched]

theorem strikeTarget_absent (h : l.target = .absent) (q : QStrike) (s : State) :
    strikeTarget q l s = digTarget q.entry q.chainage s := by
  unfold strikeTarget; rw [h]

theorem loopStrike_finished (h : s.gl.loop = none ∨ activeEntry s ≠ some q.entry ∨ q.beam = .split) :
    loopStrike q s = s := by
  unfold loopStrike
  cases hl : s.gl.loop with
  | none => rfl
  | some l =>
    dsimp only
    rcases h with h | h | h
    · rw [hl] at h; cases h
    · rw [if_neg h]
    · rw [h]; exact ite_self s

/-- Settles O26. -/
theorem targetOfAStrike : Obligations.TargetOfAStrike := by
  refine ⟨fun q l r tie s absent hr ht => ⟨fun ct h => ?_, fun hp unbenched => ?_⟩, fun q l s absent untied => ?_,
    fun q s hq => ⟨fun l b due hl act hb hst unclamped latched reached => ⟨_, exec_strike_inWindow ⟨hq, hl, act⟩ hb, ?_⟩,
      fun h => ?_⟩⟩
  · rw [strikeTarget_absent absent, digTarget_eq hr _ ht, targetAnswer_eq h]
    rfl
  · rw [strikeTarget_absent absent, digTarget_eq hr _ ht, targetAnswer_unbenched hp unbenched]
    rfl
  · rw [strikeTarget_absent absent, digTarget_untied untied]
  · rw [beamSeen_eq (s := taken s) hl (.inl hst), computeStrike_plain_targetless (s := seen l (taken s)) (l := tracked l s)
      unclamped rfl latched reached]
    refine ⟨rfl, (handOn_zero_duties s).1, (handOn_zero_duties s).2, rfl, rfl, rfl, rfl, ?_⟩
    have kept : (if l.state = .acquiring then false else s.oq.pause.beam) = s.oq.pause.beam := by
      rw [hst, if_neg nofun]
    simp only [seen, kept]
    rfl
  · rw [exec_gradeLoopStrike hq, loopStrike_finished (s := taken s) h]

end Sys2Proof.Proofs
end

section
/-! The bench collector (R121 to R123) and the pairing of strikes in the Tie Engine (R125 to R127). -/

namespace Sys2Proof.Proofs

open Sys2Proof.Machine Sys2Proof.Safety Sys2Proof.Laws

variable {s t u : State} {q : QStrike} {b : Int}

/-! ## The bench -/

/-- The part once the bench collector has taken the strike in hand (R12). -/
abbrev benchTaken (s : State) : State := { s with sq := { s.sq with toBench := none } }

theorem exec_benchStrike (hq : s.sq.toBench = some q) :
    exec .benchStrike s = .next (formPermit (benchStep q (benchTaken s))) := by
  show execBenchStrike s = _
  unfold execBenchStrike
  rw [hq]

theorem benchStep_eq {c : Bench} (act : activeEntry s = some q.entry) (hb : q.beam = .inWindow b)
    (hc : s.te.bench = some c) : benchStep q s = if c.sampling then sampleBench q b c s else s := by
  simp [benchStep, act, hb, hc]

/-- The bench with one measured depth more (R121). -/
abbrev sampled (q : QStrike) (b : Int) (c : Bench) (s : State) : Bench :=
  { c with samples := c.samples ++ [measuredDepth b s], reference := some (c.reference.getD q.chainage) }

theorem modifyBench_eq {c : Bench} (hc : s.te.bench = some c) (f : Bench → Bench) :
    modifyBench f s = { s with te := { s.te with bench := some (f c) } } := by
  simp [modifyBench, hc]

theorem sampleBench_moved {c : Bench} (h : movedFrom (c.reference.getD q.chainage) q.chainage = true) :
    sampleBench q b c s = restartForMovement (fireTiltClamp .bench s) := if_pos h

/-- The part with one measured depth more in the bench. -/
abbrev sampledPart (q : QStrike) (b : Int) (c : Bench) (s : State) : State :=
  { s with te := { s.te with bench := some (sampled q b c s) }, clp := tiltClp .bench s }

theorem sampleBench_kept {c : Bench} (hc : s.te.bench = some c)
    (h : movedFrom (c.reference.getD q.chainage) q.chainage = false) :
    sampleBench q b c s = if s.clp.consts.benchStrikes ≤ (sampled q b c s).samples.length then
        judgeBench q.entry (sampled q b c s) (sampledPart q b c s) else sampledPart q b c s := by
  have put : modifyBench (fun _ => sampled q b c s) { s with clp := tiltClp .bench s } = sampledPart q b c s :=
    modifyBench_eq (s := { s with clp := tiltClp .bench s }) hc _
  have consts : (sampledPart q b c s).clp.consts = s.clp.consts := tiltClp_consts .bench s
  unfold sampleBench
  dsimp only
  rw [h, fireTiltClamp_eq, if_neg nofun, put, consts]

theorem judgeBench_far {c : Bench} (far : (s.clp.consts.tieTolerance : Int) < spreadOf c.samples) (e : Fin 8) :
    judgeBench e c s = restartForSpread s := if_pos far

theorem judgeBench_near {c : Bench} {r : RunCtx} (near : spreadOf c.samples ≤ s.clp.consts.tieTolerance)
    (hr : s.lt = some r) (e : Fin 8) : judgeBench e c s = finishBench e c r s := by
  simp only [judgeBench, if_neg (Int.not_lt.mpr near), hr]

/-- The bench restarted for spread (R123). -/
theorem restartForSpread_eq {c : Bench} (hc : s.te.bench = some c) :
    restartForSpread s = { s with
      te := { s.te with bench := some { c with
        samples := [], reference := none, spreadRestarts := countOne c.spreadRestarts } }
      clp := { s.clp with
        counters := { s.clp.counters with benchRestart := countOne s.clp.counters.benchRestart } } } := by
  unfold restartForSpread
  rw [modifyBench_eq hc]
  rfl

/-- A chainage short of the end of the current segment meets no boundary (R57). -/
theorem testBoundary_short {r : RunCtx} {high : Nat} (hr : s.lt = some r) (hc : s.cc.chw = some high)
    (short : high < endChainage r.cur) : testBoundary s = s := by
  rw [testBoundary_eq hr, boundaryTest_below hr hc short]

/-- The tie a bench makes (R123). -/
abbrev benchTie (c : Bench) (r : RunCtx) : Tie := { pb := roundDiv c.samples.sum c.samples.length, cb := r.c0 }

theorem finishBench_eq {r : RunCtx} {high : Nat} (hc : s.cc.chw = some high) (short : high < endChainage r.cur) (e : Fin 8)
    (c : Bench) : finishBench e c r s = { s with
      pat := s.pat.set e.val { entryAt s e with tie := some (benchTie c r) }
      clp := fireIn (.benchDone e (benchTie c r) (spreadOf c.samples) c.samples.length c.moveRestarts c.spreadRestarts)
        s.clock (chainage s) s.clp
      oq := { s.oq with pause := { s.oq.pause with bench := false } }
      te := { s.te with bench := none }
      lt := some { r with phase := .running } } := by
  unfold finishBench enterRunning
  exact testBoundary_short (r := { r with phase := .running }) (by rfl) (by exact hc) short

/-- Settles O31. -/
theorem benchStrike : Obligations.BenchStrike := by
  intro q b c s hq act hb hc unclamped s0 depths
  have step := exec_benchStrike hq
  rw [benchStep_eq (s := benchTaken s) act hb hc] at step
  have clp : tiltClp .bench (benchTaken s) = s.clp := tiltClp_unclamped (s := benchTaken s) unclamped .bench
  have kept := sampleBench_kept (s := benchTaken s) (q := q) (b := b) hc
  rw [sampledPart, clp] at kept
  rw [step]
  refine ⟨fun waits => ?_, fun sampling unmoved few => ?_, fun ref sampling href moved => ?_,
    fun sampling unmoved full far => ?_, fun r high sampling unmoved full near hr hch short => ⟨_, rfl, ?_⟩⟩
  · rw [waits]
    rfl
  · rw [if_pos sampling, (kept unmoved).trans (if_neg (Nat.not_le.mpr few))]
    rfl
  · have moved : movedFrom (c.reference.getD q.chainage) q.chainage = true := by
      rw [href]
      exact (movedFrom_iff ref q.chainage).mpr moved
    rw [if_pos sampling, sampleBench_moved moved, fireTiltClamp_unclamped (s := benchTaken s) unclamped,
      restartForMovement_eq (s := benchTaken s) hc]
  · rw [if_pos sampling, (kept unmoved).trans (if_pos full), judgeBench_far (by exact far),
      restartForSpread_eq (c := sampled q b c (benchTaken s)) (by rfl)]
  · rw [if_pos sampling, (kept unmoved).trans (if_pos full), judgeBench_near (by exact near) (by exact hr),
      finishBench_eq (high := high) (by exact hch) short]
    refine ⟨entryAt_modifyEntry_same q.entry (fun p => { p with tie := some _ }) s,
      fun j other => entryAt_modifyEntry_of_ne other (fun p => { p with tie := some _ }) s, rfl, rfl, rfl,
      flag_fired (.benchDone ..) _ _ _, rfl, rfl, rfl, rfl, portKept_fireIn rfl (portKept_of_eq rfl)⟩

/-! ## The pairing -/

/-- The part once the Tie Engine has taken the strike in hand (R12). -/
abbrev tieTaken (s : State) : State := { s with sq := { s.sq with toTie := none } }

theorem exec_tieStrike {stream : TieStream} (hq : s.sq.toTie = some (stream, q)) :
    exec .tieStrike s = .next (formPermit (tieStep stream q (tieTaken s))) := by
  show execTieStrike s = _
  unfold execTieStrike
  rw [hq]

/-- The strike of a slot that a strike handed on becomes (R126). -/
abbrev offered (q : QStrike) (b : Int) (s : State) : SlotStrike :=
  { depth := measuredDepth b s, chainage := q.chainage, time := q.time }

theorem tieStep_offers {stream : TieStream} {r : TieRecord} (hr : s.te.tie = some r) (collecting : r.result = none)
    (role : (entryAt s q.entry).role = streamRole stream) (hb : q.beam = .inWindow b) :
    tieStep stream q s = offerPair stream (offered q b s) r { s with clp := tiltClp .tie s } := by
  have taken : (r.result.isNone && (entryAt s q.entry).role == streamRole stream) = true := by
    rw [collecting, role]; simp
  rw [← fireTiltClamp_eq]
  simp only [tieStep, hr, taken, hb, if_true]

theorem modifyTie_eq {r : TieRecord} (hr : s.te.tie = some r) (f : TieRecord → TieRecord) :
    modifyTie f s = { s with te := { s.te with tie := some (f r) } } := by
  simp [modifyTie, hr]

theorem agree_iff (k : Constants) (x held : SlotStrike) : agree k x held = true ↔ closeTo k x held := by
  unfold agree
  rw [Bool.and_eq_true, Bool.and_eq_true, decide_eq_true_eq, decide_eq_true_eq, decide_eq_true_eq, and_assoc]
  rfl

/-- A strike that finds no strike close to it in the other slot takes its own (R126). -/
theorem offerPair_candidate_alone {r : TieRecord} {x : SlotStrike} (hr : s.te.tie = some r)
    (h : r.activeSlot = none ∨ ∃ a, r.activeSlot = some a ∧ ¬ closeTo s.clp.consts x a) :
    offerPair .candidate x r s = { s with te := { s.te with tie := some { r with candidateSlot := some x } } } := by
  rw [← modifyTie_eq hr fun t => { t with candidateSlot := some x }]
  rcases h with h | ⟨a, h, far⟩
  · simp only [offerPair, h]
  · simp only [offerPair, h, if_neg (mt (agree_iff _ x a).mp far)]

theorem offerPair_active_alone {r : TieRecord} {x : SlotStrike} (hr : s.te.tie = some r)
    (h : r.candidateSlot = none ∨ ∃ a, r.candidateSlot = some a ∧ ¬ closeTo s.clp.consts x a) :
    offerPair .active x r s = { s with te := { s.te with tie := some { r with activeSlot := some x } } } := by
  rw [← modifyTie_eq hr fun t => { t with activeSlot := some x }]
  rcases h with h | ⟨a, h, far⟩
  · simp only [offerPair, h]
  · simp only [offerPair, h, if_neg (mt (agree_iff _ x a).mp far)]

theorem offerPair_candidate_close {r : TieRecord} {x a : SlotStrike} (h : r.activeSlot = some a)
    (close : closeTo s.clp.consts x a) : offerPair .candidate x r s = joinPair r a x s := by
  simp only [offerPair, h, if_pos ((agree_iff _ x a).mpr close)]

theorem offerPair_active_close {r : TieRecord} {x c : SlotStrike} (h : r.candidateSlot = some c)
    (close : closeTo s.clp.consts x c) : offerPair .active x r s = joinPair r x c s := by
  simp only [offerPair, h, if_pos ((agree_iff _ x c).mpr close)]

/-- The part with one pair more in its tie record (R127). -/
abbrev paired (r : TieRecord) (a c : SlotStrike) (i : Fin 8) (tie : Tie) (s : State) : State :=
  { s with te := { s.te with tie := some (withPair r a c i tie s) } }

/-- A pair joins the list, which is judged when it is full (R127, R128). -/
theorem joinPair_eq {r : TieRecord} {i : Fin 8} {tie : Tie} (hr : s.te.tie = some r) (act : activeEntry s = some i)
    (ht : (entryAt s i).tie = some tie) (a c : SlotStrike) :
    joinPair r a c s = if r.n ≤ (withPair r a c i tie s).pairs.length then
        completeTie (withPair r a c i tie s) (paired r a c i tie s) else paired r a c i tie s := by
  have plane : activePlane s = some ((entryAt s i).slope, tie) := by
    unfold activePlane
    simp only [act, ht, Option.map_some]
  unfold joinPair
  rw [plane]
  dsimp only
  rw [formPair, modifyTie_eq hr]
  rfl

/-- A strike that makes a pair (R125, R126). -/
theorem exec_tieStrike_pairs {r : TieRecord} {a c : SlotStrike} (hr : s.te.tie = some r) (collecting : r.result = none)
    (hb : q.beam = .inWindow b) (unclamped : tiltUnclamped s) (pairs : makesPair q r (offered q b s) a c s) :
    exec .tieStrike s = .next (formPermit (joinPair r a c (tieTaken s))) := by
  rcases pairs with ⟨hq, role, slot, rfl, close⟩ | ⟨hq, role, slot, rfl, close⟩
  · rw [exec_tieStrike hq, tieStep_offers (s := tieTaken s) hr collecting (by exact role) hb,
      tiltClp_unclamped (s := tieTaken s) unclamped]
    exact congrArg (fun u => Host.Outcome.next (formPermit u)) (offerPair_candidate_close (s := tieTaken s) slot close)
  · rw [exec_tieStrike hq, tieStep_offers (s := tieTaken s) hr collecting (by exact role) hb,
      tiltClp_unclamped (s := tieTaken s) unclamped]
    exact congrArg (fun u => Host.Outcome.next (formPermit u)) (offerPair_active_close (s := tieTaken s) slot close)

/-- Settles O32. -/
theorem tieStrike : Obligations.TieStrike := by
  intro q b r s hr collecting hb unclamped x k
  refine ⟨fun hq role alone => ?_, fun hq role alone => ?_, fun a c i tie pairs act ht few => ?_⟩
  · rw [exec_tieStrike hq, tieStep_offers (s := tieTaken s) hr collecting (by exact role) hb,
      tiltClp_unclamped (s := tieTaken s) unclamped]
    exact congrArg (fun u => Host.Outcome.next (formPermit u)) (offerPair_candidate_alone (s := tieTaken s) hr alone)
  · rw [exec_tieStrike hq, tieStep_offers (s := tieTaken s) hr collecting (by exact role) hb,
      tiltClp_unclamped (s := tieTaken s) unclamped]
    exact congrArg (fun u => Host.Outcome.next (formPermit u)) (offerPair_active_alone (s := tieTaken s) hr alone)
  · have room : ¬ r.n ≤ (withPair r a c i tie (tieTaken s)).pairs.length := by
      rw [List.length_append, List.length_singleton]
      omega
    rw [exec_tieStrike_pairs hr collecting hb unclamped pairs, joinPair_eq (s := tieTaken s) hr act ht, if_neg room]
    rfl

end Sys2Proof.Proofs
end

section
/-! The completion of a tie (R128, R131, R134), the transfer of the ACTIVE role with the loop it sets (R82, R115, R130 to
R132), the start and the ends of a tie (R124, R129, R133) and the clamp of the tilt (R74, R80). -/

namespace Sys2Proof.Proofs

open Sys2Proof.Machine Sys2Proof.Safety Sys2Proof.Laws

variable {s t u : State} {q : QStrike} {b : Int} {l : LoopCtx} {e old : Fin 8}

/-! ## The roles at a transfer -/

/-- The planes once the ACTIVE role has passed from one entry to another (R131). -/
abbrev passed (e : Fin 8) (x : Tie) (old : Fin 8) (s : State) : State :=
  modifyEntry old (fun p => { p with role := .retired }) (modifyEntry e (fun p => { p with role := .active, tie := some x }) s)

theorem entryAt_passed_new (other : old ≠ e) (x : Tie) (s : State) :
    entryAt (passed e x old s) e = { entryAt s e with role := .active, tie := some x } := by
  rw [passed, entryAt_modifyEntry_of_ne other.symm, entryAt_modifyEntry_same]

theorem entryAt_passed_old (other : old ≠ e) (x : Tie) (s : State) :
    entryAt (passed e x old s) old = { entryAt s old with role := .retired } := by
  rw [passed, entryAt_modifyEntry_same, entryAt_modifyEntry_of_ne other]

theorem entryAt_passed_other {j : Fin 8} (hj : j ≠ e) (hj' : j ≠ old) (x : Tie) (s : State) :
    entryAt (passed e x old s) j = entryAt s j := by
  rw [passed, entryAt_modifyEntry_of_ne hj', entryAt_modifyEntry_of_ne hj]

/-! ## The loop at a transfer -/

/-- The target a transfer leaves: one that was latched is latched afresh (R82). -/
abbrev targetAfter (l : LoopCtx) : ConstTarget :=
  match l.target with
  | .latched _ => .unlatched
  | target => target

/-- The loop context told of a transfer (R82). -/
abbrev told (k : Constants) (l : LoopCtx) : LoopCtx := cleared k { l with target := targetAfter l }

theorem tellTransfer_eq (hl : s.gl.loop = some l) :
    tellTransfer s = { s with gl := { s.gl with loop := some (told s.clp.consts l) } } := by
  unfold tellTransfer
  rw [modifyLoop_eq hl, clearWindow_eq (by rfl)]
  obtain ⟨_, _, _, _, _, _, _, target, _⟩ := l
  cases target <;> rfl

/-- The part with the loop state, V, the pause reasons and the port as a transfer sets them, the outputs following. -/
def LoopSet (st : LoopState) (v : Int) (pause : PauseSet) (p : Clp) (l : LoopCtx) (s u : State) : Prop :=
  u = { s with gl := { v := v, loop := some { told s.clp.consts l with state := st } }
               oq := { s.oq with pause := pause }, clp := p, os := u.os, sm := u.sm }

theorem transferLoop_none (hl : s.gl.loop = none) (e : Fin 8) : transferLoop e s = s := by
  unfold transferLoop; rw [hl]

theorem transferLoop_eq (hl : s.gl.loop = some l) (e : Fin 8) : transferLoop e s = loopAtTransfer (entryAt s e).last l
    { s with gl := { s.gl with loop := some (told s.clp.consts l) } } := by
  rw [← tellTransfer_eq hl]
  unfold transferLoop
  rw [hl]

theorem loopSet_acquiring (hl : s.gl.loop = some l) (h : l.state = .acquiring) (e : Fin 8) :
    LoopSet .acquiring s.gl.v s.oq.pause s.clp l s (transferLoop e s) := by
  rw [transferLoop_eq hl]
  unfold loopAtTransfer LoopSet
  rw [h]
  dsimp only
  rw [← h]

theorem loopSet_lost {drive : Option LostDrive} (hl : s.gl.loop = some l) (h : l.state = .lost drive) (e : Fin 8) :
    LoopSet (.lost none) 0 s.oq.pause s.clp l s (transferLoop e s) := by
  rw [transferLoop_eq hl, loopAtTransfer, h]
  dsimp only
  rw [handOn_setLoopState (l := told s.clp.consts l) (by rfl)]
  rfl

/-- A loop state that the new entry's last strike sets afresh (R132). -/
abbrev live (l : LoopCtx) : Prop := l.state ≠ .acquiring ∧ ∀ drive, l.state ≠ .lost drive

theorem transferLoop_live (hl : s.gl.loop = some l) (h : live l) (e : Fin 8) :
    transferLoop e s = loopFromLast (entryAt s e).last
      { s with gl := { s.gl with loop := some (told s.clp.consts l) } } := by
  rw [transferLoop_eq hl]
  unfold loopAtTransfer
  cases hst : l.state with
  | acquiring => exact absurd hst h.1
  | lost drive => exact absurd hst (h.2 drive)
  | _ => rfl

theorem loopSet_tracking {c : Int} {at_ : Nat} {time : Time} (hl : s.gl.loop = some l) (h : live l)
    (last : (entryAt s e).last = some ⟨.inWindow c, at_, time⟩) (recent : (s.clock - time).toNat < s.clp.consts.lossTime) :
    LoopSet (.tracking (time + BitVec.ofNat 32 s.clp.consts.lossTime))
      (max (-(s.clp.consts.driveMax : Int)) (min s.clp.consts.driveMax s.gl.v)) { s.oq.pause with beam := false } s.clp l s
      (transferLoop e s) := by
  rw [transferLoop_live hl h, last]
  unfold loopFromLast
  dsimp only
  rw [if_pos (show elapsed s.clock time < s.clp.consts.lossTime from recent)]
  unfold trackAtTransfer
  dsimp only
  rw [setLoopState_eq (l := told s.clp.consts l) (by rfl)]
  split
  next same =>
    have v : max (-(s.clp.consts.driveMax : Int)) (min s.clp.consts.driveMax s.gl.v) = s.gl.v := same
    rw [v]
    rfl
  next => rfl

theorem loopSet_search {dir : Direction} {beam : Beam} (hl : s.gl.loop = some l) (h : live l) (points : pointsTo beam dir)
    (last : (entryAt s e).last.map (·.beam) = some beam) :
    LoopSet (.searching dir (max s.clp.consts.searchDrive s.clp.consts.driveMin) (chainage s)
        (s.clock + BitVec.ofNat 32 s.clp.consts.searchTime) 0 s.clock)
      (driveOf dir (max s.clp.consts.searchDrive s.clp.consts.driveMin)) s.oq.pause
      (fireIn (.beamSearch dir .transfer (max s.clp.consts.searchDrive s.clp.consts.driveMin)) s.clock (chainage s) s.clp)
      l s (transferLoop e s) := by
  obtain ⟨k, hk, rfl⟩ := Option.map_eq_some_iff.mp last
  rw [transferLoop_live hl h, hk]
  unfold loopFromLast
  dsimp only
  rcases points with ⟨hb, rfl⟩ | ⟨hb, rfl⟩
  · rw [hb]
    dsimp only
    rw [enterSearch_eq (l := told s.clp.consts l) (by rfl)]
    rfl
  · rw [hb]
    dsimp only
    rw [enterSearch_eq (l := told s.clp.consts l) (by rfl)]
    rfl

/-- With no strike, an old one or one that is SPLIT the loop coasts (R132). -/
theorem loopFromLast_coasts {last : Option LastStrike}
    (old : ¬ ∃ b c time, last = some ⟨.inWindow b, c, time⟩ ∧ (s.clock - time).toNat < s.clp.consts.lossTime)
    (above : last.map (·.beam) ≠ some .above) (below : last.map (·.beam) ≠ some .below) :
    loopFromLast last s = enterCoasting s := by
  cases last with
  | none => rfl
  | some k =>
    obtain ⟨beam, c, time⟩ := k
    cases beam with
    | inWindow b => exact if_neg fun recent => old ⟨b, c, time, rfl, recent⟩
    | above => exact absurd rfl above
    | below => exact absurd rfl below
    | split => rfl

theorem loopSet_coasting (hl : s.gl.loop = some l) (h : live l)
    (old : ¬ ∃ b c time, (entryAt s e).last = some ⟨.inWindow b, c, time⟩
      ∧ (s.clock - time).toNat < s.clp.consts.lossTime)
    (above : (entryAt s e).last.map (·.beam) ≠ some .above) (below : (entryAt s e).last.map (·.beam) ≠ some .below) :
    LoopSet (.coasting (chainage s) s.clock) 0 s.oq.pause s.clp l s (transferLoop e s) := by
  rw [transferLoop_live hl h, loopFromLast_coasts (by exact old) above below, enterCoasting_eq (l := told s.clp.consts l) (by rfl)]
  rfl

/-- However the loop is set, a transfer fires BEAM_SEARCH at most. -/
theorem loopSet_some (hl : s.gl.loop = some l) (e : Fin 8) : ∃ st v pause p, LoopSet st v pause p l s (transferLoop e s)
    ∧ (p = s.clp ∨ ∃ ev, p = fireIn ev s.clock (chainage s) s.clp) := by
  by_cases acquiring : l.state = .acquiring
  · exact ⟨_, _, _, _, loopSet_acquiring hl acquiring e, .inl rfl⟩
  by_cases lost : ∃ drive, l.state = .lost drive
  · obtain ⟨drive, lost⟩ := lost
    exact ⟨_, _, _, _, loopSet_lost hl lost e, .inl rfl⟩
  have alive : live l := ⟨acquiring, fun drive h => lost ⟨drive, h⟩⟩
  by_cases above : (entryAt s e).last.map (·.beam) = some .above
  · exact ⟨_, _, _, _, loopSet_search hl alive (.inl ⟨rfl, rfl⟩) above, .inr ⟨_, rfl⟩⟩
  by_cases below : (entryAt s e).last.map (·.beam) = some .below
  · exact ⟨_, _, _, _, loopSet_search hl alive (.inr ⟨rfl, rfl⟩) below, .inr ⟨_, rfl⟩⟩
  by_cases recent : ∃ b c time, (entryAt s e).last = some ⟨.inWindow b, c, time⟩
      ∧ (s.clock - time).toNat < s.clp.consts.lossTime
  · obtain ⟨b, c, time, last, recent⟩ := recent
    exact ⟨_, _, _, _, loopSet_tracking hl alive last recent, .inl rfl⟩
  · exact ⟨_, _, _, _, loopSet_coasting hl alive recent above below, .inl rfl⟩

/-! ## The whole transfer -/

/-- The part a transfer leaves, the loop being set (R131). -/
abbrev transferred (e old : Fin 8) (result : TieResult) (name : Option LoopName) (u : State) : State :=
  { u with
    clp := fireIn (.transfer e old result.tie name) u.clock (chainage u) u.clp
    te := { u.te with tie := none, last := some (.transferred e result.tie result.spread) } }

theorem transfer_of_old {r : TieRecord} (act : activeEntry s = some old) (result : TieResult) :
    transfer r result s = transferred r.candidate old result
      ((transferLoop r.candidate (passed r.candidate result.tie old s)).gl.loop.map fun l => loopName l.state)
      (transferLoop r.candidate (passed r.candidate result.tie old s)) := by
  unfold transfer
  rw [act]
  rfl

/-- What a transfer keeps and sets besides the planes and the loop. -/
structure Transferred (e old : Fin 8) (result : TieResult) (s t : State) : Prop where
  pat : t.pat = (passed e result.tie old s).pat
  te : t.te = { s.te with tie := none, last := some (.transferred e result.tie result.spread) }
  flag : t.clp.flags.getLsbD 10 = true
  flags : ∀ n, s.clp.flags.getLsbD n = true → t.clp.flags.getLsbD n = true
  port : portKept s t
  cc : t.cc = s.cc
  ss : t.ss = s.ss
  lt : t.lt = s.lt
  ops : t.oq.ops = s.oq.ops
  sq : t.sq = s.sq

theorem transferred_transfer {r : TieRecord} (act : activeEntry s = some old) (result : TieResult) :
    Transferred r.candidate old result s (transfer r result s) := by
  rw [transfer_of_old act]
  cases hl : s.gl.loop with
  | none =>
    rw [transferLoop_none (s := passed r.candidate result.tie old s) hl]
    exact ⟨rfl, rfl, flag_fired (.transfer ..) _ _ _, fun n set => flag_kept set _ _ _,
      portKept_fireIn rfl (portKept_of_eq rfl), rfl, rfl, rfl, rfl, rfl⟩
  | some l =>
    obtain ⟨st, v, pause, p, set, fired⟩ := loopSet_some (s := passed r.candidate result.tie old s) hl r.candidate
    rw [set]
    refine ⟨rfl, rfl, flag_fired (.transfer ..) _ _ _, fun n was => flag_kept ?_ _ _ _, portKept_fireIn rfl ?_, rfl, rfl, rfl,
      rfl, rfl⟩
    · rcases fired with rfl | ⟨ev, rfl⟩
      · exact was
      · exact flag_kept was _ _ _
    · rcases fired with rfl | ⟨ev, rfl⟩
      · exact portKept_of_eq rfl
      · exact portKept_fireIn rfl (portKept_of_eq rfl)

theorem entryAt_of_pat (h : t.pat = u.pat) (j : Fin 8) : entryAt t j = entryAt u j := by unfold entryAt; rw [h]

end Sys2Proof.Proofs
end

section
/-! The statements on the completion of a tie (R128, R131, R134), on TIE_COMMIT (R130 to R132), on TIE_START and the ends of
a tie (R124, R129, R133) and on the clamp of the tilt and the latching of a HOLD (R74, R80). -/

namespace Sys2Proof.Proofs

open Sys2Proof.Machine Sys2Proof.Safety Sys2Proof.Laws

variable {s t u : State} {q : QStrike} {b : Int} {l : LoopCtx} {e old : Fin 8} {r : TieRecord}

/-! ## The completion -/

/-- The mean of a full list as a tie at its reference chainage (R128). -/
abbrev meanTie (r : TieRecord) : Tie :=
  { pb := roundDiv (r.pairs.map (·.estimate)).sum (r.pairs.map (·.estimate)).length, cb := r.cRef.getD 0 }

/-- The spread of a list of pairs (R128). -/
abbrev spreadIn (r : TieRecord) : Int := spreadOf (r.pairs.map (·.estimate))

/-- The result of a full list (R128). -/
abbrev resultOf (r : TieRecord) : TieResult := { tie := meanTie r, spread := spreadIn r }

theorem completeTie_spread (far : (s.clp.consts.tieTolerance : Int) < spreadIn r) :
    completeTie r s = endTie .spread (some (spreadIn r)) s := if_pos far

theorem completeTie_range (near : spreadIn r ≤ s.clp.consts.tieTolerance)
    (outside : (meanTie r).pb < -10000 ∨ 10000 < (meanTie r).pb) : completeTie r s = endTie .range none s :=
  (if_neg (Int.not_lt.mpr near)).trans (if_pos outside)

/-- The part once TIE_DONE has fired (R128). -/
abbrev tieDone (r : TieRecord) (s : State) : State := fire (.tieDone r.candidate (meanTie r) (spreadIn r) r.n r.mode) s

theorem completeTie_auto (near : spreadIn r ≤ s.clp.consts.tieTolerance)
    (inside : ¬ ((meanTie r).pb < -10000 ∨ 10000 < (meanTie r).pb)) (auto : r.mode = .auto) :
    completeTie r s = transfer r (resultOf r) (tieDone r s) := by
  refine (if_neg (Int.not_lt.mpr near)).trans ((if_neg inside).trans ?_)
  split
  next => rfl
  next confirm => rw [auto] at confirm; cases confirm

theorem completeTie_confirm (hr : s.te.tie = some r) (near : spreadIn r ≤ s.clp.consts.tieTolerance)
    (inside : ¬ ((meanTie r).pb < -10000 ∨ 10000 < (meanTie r).pb)) (confirm : r.mode = .confirm) :
    completeTie r s = { tieDone r s with te := { s.te with tie := some { r with
      timer := none, activeSlot := none, candidateSlot := none, result := some (resultOf r) } } } := by
  refine (if_neg (Int.not_lt.mpr near)).trans ((if_neg inside).trans ?_)
  split
  next auto => rw [confirm] at auto; cases auto
  next => exact modifyTie_eq (s := tieDone r s) hr _

/-- The pair that fills the list (R126, R128). -/
theorem exec_tieStrike_completes {a c : SlotStrike} {i : Fin 8} {tie : Tie} (hr : s.te.tie = some r)
    (collecting : r.result = none) (hb : q.beam = .inWindow b) (unclamped : tiltUnclamped s)
    (pairs : makesPair q r (offered q b s) a c s) (act : activeEntry s = some i) (ht : (entryAt s i).tie = some tie)
    (last : r.pairs.length + 1 = r.n) :
    exec .tieStrike s = .next (formPermit (completeTie (withPair r a c i tie s) (paired r a c i tie (tieTaken s)))) := by
  have full : r.n ≤ (withPair r a c i tie (tieTaken s)).pairs.length := by
    rw [List.length_append, List.length_singleton]; omega
  rw [exec_tieStrike_pairs hr collecting hb unclamped pairs, joinPair_eq (s := tieTaken s) hr act ht, if_pos full]
  rfl

/-- A completion that fails (R134). -/
theorem failed_of_completes {why : TieReason} {shown : Option Int} (hr : s.te.tie = some r)
    (completes : exec .tieStrike u = .next (formPermit (completeTie r s))) (ends : completeTie r s = endTie why shown s)
    (count : r.pairs.length = r.n) : ∃ t, exec .tieStrike u = .next t
      ∧ t.te = { s.te with tie := none, last := some (.failed r.candidate why r.n shown) }
      ∧ entryAt t r.candidate = { entryAt s r.candidate with role := .standby, tie := none }
      ∧ (∀ j, j ≠ r.candidate → entryAt t j = entryAt s j)
      ∧ t.clp = fireIn (.tieFailed r.candidate why r.n shown) s.clock (chainage s) s.clp
      ∧ t = { s with pat := t.pat, te := t.te, clp := t.clp, os := t.os } := by
  refine ⟨_, completes, ?_⟩
  rw [ends, endTie_of_some hr, count]
  exact ⟨rfl, entryAt_modifyEntry_same r.candidate (fun p => { p with role := .standby, tie := none }) s,
    fun j other => entryAt_modifyEntry_of_ne other (fun p => { p with role := .standby, tie := none }) s, rfl, rfl⟩

theorem transfer_of_loop {result : TieResult} {name : Option LoopName} (act : activeEntry s = some old)
    (loop : transferLoop r.candidate (passed r.candidate result.tie old s) = u)
    (named : (u.gl.loop.map fun l => loopName l.state) = name) :
    transfer r result s = transferred r.candidate old result name u := by
  rw [transfer_of_old act, loop, named]

theorem transfer_without_loop (act : activeEntry s = some old) (hl : s.gl.loop = none) (result : TieResult) :
    transfer r result s = transferred r.candidate old result none (passed r.candidate result.tie old s) :=
  transfer_of_loop act (transferLoop_none (by exact hl) _) (congrArg (Option.map fun l => loopName l.state) hl)

/-- The planes of a part whose table a transfer has left. -/
theorem entryAt_transferred {res : TieResult} (pat : t.pat = (passed e res.tie old s).pat) (other : old ≠ e) :
    entryAt t e = { entryAt s e with role := .active, tie := some res.tie }
    ∧ entryAt t old = { entryAt s old with role := .retired }
    ∧ (∀ j, j ≠ e → j ≠ old → entryAt t j = entryAt s j) :=
  ⟨(entryAt_of_pat pat e).trans (entryAt_passed_new other _ _), (entryAt_of_pat pat old).trans (entryAt_passed_old other _ _),
    fun j new notOld => (entryAt_of_pat pat j).trans (entryAt_passed_other new notOld _ _)⟩

/-- Settles O33. -/
theorem tieCompletes : Obligations.TieCompletes := by
  intro q b r a c i tie s hr collecting hb unclamped pairs act ht last full estimates spread mean result done failed
  have completes := exec_tieStrike_completes hr collecting hb unclamped pairs act ht last
  have count : full.pairs.length = r.n := by
    rw [List.length_append, List.length_singleton]; exact last
  have meanEq : meanTie full = result := by
    show ({ pb := roundDiv estimates.sum estimates.length, cb := _ } : Tie) = _
    rw [show estimates.length = r.n by rw [List.length_map, count]]
    rfl
  have resultEq : resultOf full = { tie := result, spread := spread } := by rw [resultOf, meanEq]
  have inside (low : -10000 ≤ mean) (high : mean ≤ 10000) : ¬ ((meanTie full).pb < -10000 ∨ 10000 < (meanTie full).pb) := by
    rw [meanEq]
    show ¬ (mean < -10000 ∨ 10000 < mean)
    omega
  refine ⟨fun far => ?_, fun near outside => ?_, fun near low high confirm => ?_, fun near low high auto other => ?_⟩
  · obtain ⟨t, ht, te, new, others, clp, frame⟩ :=
      failed_of_completes (s := paired r a c i tie (tieTaken s)) rfl completes (completeTie_spread far) count
    exact ⟨t, ht, te, new, others, clp, frame⟩
  · have outside : (meanTie full).pb < -10000 ∨ 10000 < (meanTie full).pb := by rw [meanEq]; exact outside
    obtain ⟨t, ht, te, new, others, clp, frame⟩ :=
      failed_of_completes (s := paired r a c i tie (tieTaken s)) rfl completes (completeTie_range near outside) count
    exact ⟨t, ht, te, new, others, clp, frame⟩
  · have step := completeTie_confirm (s := paired r a c i tie (tieTaken s)) (r := full) rfl near (inside low high) confirm
    rw [resultEq, tieDone, meanEq] at step
    exact ⟨_, completes.trans (congrArg (fun u => Host.Outcome.next (formPermit u)) step), rfl, rfl, rfl⟩
  · have step := completeTie_auto (s := paired r a c i tie (tieTaken s)) (r := full) near (inside low high) auto
    rw [resultEq, tieDone, meanEq] at step
    have x := transferred_transfer (s := fire (.tieDone r.candidate result spread r.n r.mode)
      (paired r a c i tie (tieTaken s))) (r := full) (old := i) act { tie := result, spread := spread }
    have pat := x.pat
    rw [← formPermit_pat] at pat
    obtain ⟨new, retired, others⟩ := entryAt_transferred pat other
    refine ⟨_, completes.trans (congrArg (fun u => Host.Outcome.next (formPermit u)) step), by rw [formPermit_te, x.te]; rfl,
      new, retired, others, by rw [formPermit_clp]; exact x.flags 8 (flag_fired (.tieDone ..) _ _ _),
      by rw [formPermit_clp]; exact x.flag, by rw [formPermit_sq, x.sq]; rfl, fun hl => ?_, by rw [formPermit_cc, x.cc]; rfl,
      by rw [formPermit_ss, x.ss]; rfl, by rw [formPermit_lt, x.lt]; rfl, by rw [formPermit_oq, x.ops]; rfl,
      portKept_trans (portKept_fireIn rfl (portKept_of_eq rfl)) x.port⟩
    have without := transfer_without_loop (s := fire (.tieDone r.candidate result spread r.n r.mode)
      (paired r a c i tie (tieTaken s))) (r := full) (old := i) act hl { tie := result, spread := spread }
    rw [formPermit_gl, formPermit_clp, without]
    exact ⟨rfl, rfl⟩

/-! ## TIE_COMMIT -/

theorem exec_tieCommit {res : TieResult} (hr : s.te.tie = some r) (waiting : r.result = some res) (tag : Nat) :
    exec (.tieCommit tag) s = .next (answer .tieCommit tag .ok .none (formPermit (transfer r res s))) := by
  simp [exec, execTieCommit, hr, waiting]

theorem exec_tieCommit_refused (h : ∀ r, s.te.tie = some r → r.result = none) (tag : Nat) :
    exec (.tieCommit tag) s = .next (refuse .tieCommit tag .state s) := by
  cases hr : s.te.tie with
  | none => simp [exec, execTieCommit, hr]
  | some r => simp [exec, execTieCommit, hr, h r hr]

/-- The part as TIE_COMMIT leaves it. -/
abbrev committed (tag : Nat) (r : TieRecord) (res : TieResult) (s : State) : State :=
  answer .tieCommit tag .ok .none (formPermit (transfer r res s))

/-- The port of a transfer that names a loop state, but for its reply to TIE_COMMIT. -/
abbrev firedTransfer (r : TieRecord) (old : Fin 8) (res : TieResult) (name : Option LoopName) (before : Clp) (s t : State) :
    Prop :=
  t.clp = { fireIn (.transfer r.candidate old res.tie name) s.clock (chainage s) before with
    reply := t.clp.reply, held := t.clp.held, rx := t.clp.rx, inHand := t.clp.inHand }

theorem committed_without_loop {res : TieResult} (act : activeEntry s = some old) (hl : s.gl.loop = none) (tag : Nat) :
    (committed tag r res s).gl = s.gl ∧ firedTransfer r old res none s.clp s (committed tag r res s) := by
  rw [committed, transfer_without_loop act hl]
  exact ⟨rfl, rfl⟩

/-- TIE_COMMIT with the loop set as the transfer sets it. -/
theorem committed_of_loopSet {st : LoopState} {v : Int} {pause : PauseSet} {p : Clp} {res : TieResult}
    (act : activeEntry s = some old) (set : LoopSet st v pause p l (passed r.candidate res.tie old s)
      (transferLoop r.candidate (passed r.candidate res.tie old s))) (tag : Nat) :
    (committed tag r res s).gl = { v := v, loop := some { told s.clp.consts l with state := st } }
    ∧ firedTransfer r old res (some (loopName st)) p s (committed tag r res s)
    ∧ (committed tag r res s).oq.pause = pause := by
  rw [committed, transfer_of_loop act set rfl]
  exact ⟨rfl, rfl, rfl⟩

/-- Settles O35. -/
theorem tieCommitTransfersTheActiveRole : Obligations.TieCommitTransfersTheActiveRole := by
  refine ⟨fun tag s h => exec_tieCommit_refused h tag, ?_⟩
  intro tag r res old s hr waiting act other k full last recent search
  have x := transferred_transfer (r := r) act res
  have lastKept : (entryAt (passed r.candidate res.tie old s) r.candidate).last = last := by
    rw [entryAt_passed_new other]
  obtain ⟨new, retired, others⟩ := entryAt_transferred (t := committed tag r res s) (by rw [answer_pat, formPermit_pat, x.pat]) other
  refine ⟨_, exec_tieCommit hr waiting tag, by rw [answer_clp]; rfl, new, retired, others, by rw [answer_te, formPermit_te, x.te],
    by rw [answer_clp, formPermit_clp]; exact x.flag, by rw [answer_cc, formPermit_cc, x.cc],
    by rw [answer_ss, formPermit_ss, x.ss], by rw [answer_lt, formPermit_lt, x.lt],
    by rw [answer_oq, formPermit_oq, x.ops], ?_, ?_⟩
  · intro hl
    exact committed_without_loop act hl tag
  intro l hl
  have hl' : (passed r.candidate res.tie old s).gl.loop = some l := hl
  refine ⟨fun acquiring => ?_, fun drive lost => ?_, fun b c time alive was young => ?_, fun alive above => ?_,
    fun alive below => ?_, fun alive aged above below => ?_⟩
  · exact committed_of_loopSet act (loopSet_acquiring hl' acquiring _) tag
  · exact committed_of_loopSet act (loopSet_lost hl' lost _) tag
  · exact committed_of_loopSet act (loopSet_tracking hl' alive (lastKept.trans was) young) tag
  · rw [← lastKept] at above
    exact committed_of_loopSet act (loopSet_search hl' alive (.inl ⟨rfl, rfl⟩) above) tag
  · rw [← lastKept] at below
    exact committed_of_loopSet act (loopSet_search hl' alive (.inr ⟨rfl, rfl⟩) below) tag
  · have aged : ¬ ∃ b c time, (entryAt (passed r.candidate res.tie old s) r.candidate).last = some ⟨.inWindow b, c, time⟩
        ∧ (s.clock - time).toNat < s.clp.consts.lossTime := by rw [lastKept]; exact aged
    rw [← lastKept] at above below
    exact committed_of_loopSet act (loopSet_coasting hl' alive aged above below) tag

/-! ## TIE_START and the ends of a tie -/

theorem tieModeOf_ctorIdx (mode : TieMode) : tieModeOf mode.ctorIdx = some mode := by cases mode <;> rfl

theorem tieStartTest_taken {n : Nat} {i : Fin 8} {tie : Tie} (low : 2 ≤ n) (high : n ≤ 16) (idle : s.te.tie = none)
    (act : activeEntry s = some i) (ht : (entryAt s i).tie = some tie)
    (role : (entryAt s e).role = .standby ∨ (entryAt s e).role = .retired) (sound : s.os.faulted = false) (mode : TieMode) :
    tieStartTest e.val n mode.ctorIdx s = .inr (e, mode) := by
  have plane : activePlane s = some ((entryAt s i).slope, tie) := by
    unfold activePlane
    simp only [act, ht, Option.map_some]
  have tied : mayBeTied (entryAt s e).role = true := by
    rcases role with h | h <;> rw [h] <;> rfl
  simp [tieStartTest, tieModeOf_ctorIdx, inRange, low, high, tieInFlight, idle, plane, tied, sound]

theorem exec_tieStart {n : Nat} {mode : TieMode} (test : tieStartTest e.val n mode.ctorIdx s = .inr (e, mode)) (tag : Nat) :
    exec (.tieStart tag e.val n mode.ctorIdx) s = .next (answer .tieStart tag .ok .none { s with
      pat := s.pat.set e.val { entryAt s e with role := .candidate, tie := none }
      te := { s.te with tie := some (newTie e n mode s) } }) := by
  simp only [exec, execTieStart, test]
  rfl

theorem exec_tieCancel_refused (idle : s.te.tie = none) (tag : Nat) :
    exec (.tieCancel tag) s = .next (refuse .tieCancel tag .state s) := by
  simp [exec, execTieCancel, tieInFlight, idle]

theorem exec_tieCancel (hr : s.te.tie = some r) (tag : Nat) :
    exec (.tieCancel tag) s = .next (answer .tieCancel tag .ok .none (endTie .cancelled none s)) := by
  simp [exec, execTieCancel, tieInFlight, hr]

theorem exec_tieTimerExpiry (hr : s.te.tie = some r) (h : r.timer ≠ none) :
    exec .tieTimerExpiry s = .next (endTie .time none s) := by
  simp [exec, execTieTimerExpiry, hr, Option.isSome_iff_ne_none, h]

/-- Settles O34. -/
theorem tieStartAndItsEnds : Obligations.TieStartAndItsEnds := by
  intro tag s
  refine ⟨fun n mode e i tie low high idle act ht role sound =>
      exec_tieStart (tieStartTest_taken low high idle act ht role sound mode) tag,
    fun idle => exec_tieCancel_refused idle tag, fun r i why hr h => ?_⟩
  have new := entryAt_modifyEntry_same r.candidate (fun p => { p with role := .standby, tie := none }) s
  have others (j : Fin 8) (h : j ≠ r.candidate) :=
    entryAt_modifyEntry_of_ne h (fun p => { p with role := .standby, tie := none }) s
  rcases h with ⟨rfl, rfl⟩ | ⟨rfl, rfl, timer⟩
  · refine ⟨_, exec_tieCancel hr tag, ?_⟩
    rw [endTie_of_some hr]
    exact ⟨rfl, new, others, flag_fired (.tieFailed ..) _ _ _, rfl⟩
  · refine ⟨_, exec_tieTimerExpiry hr timer, ?_⟩
    rw [endTie_of_some hr]
    exact ⟨rfl, new, others, flag_fired (.tieFailed ..) _ _ _, rfl⟩

end Sys2Proof.Proofs
end

section
/-! The clamp of the tilt at each computation of a measured depth (R74), and the strike that latches a HOLD (R80, R85). -/

namespace Sys2Proof.Proofs

open Sys2Proof.Machine Sys2Proof.Safety Sys2Proof.Laws

variable {s t u : State} {q : QStrike} {b : Int} {l : LoopCtx}

/-! ## The clamp -/

theorem tiltSample_real (real : s.sm = none) : tiltSample s = s.os.tilt := by
  unfold tiltSample
  rw [real]
  rfl

/-- The tilt as clamped lies on the side the sample leans to (R74). -/
theorem tiltNow_clamped (real : s.sm = none) (far : 120 < (roundDiv s.os.tilt 10).natAbs) :
    tiltNow s = (if 0 < s.os.tilt then 120 else -120) ∧ tiltNow s ≠ tiltTenths (tiltSample s) := by
  unfold tiltNow tiltTenths clampTilt clampInt
  rw [tiltSample_real real]
  unfold roundDiv at far ⊢
  push_cast at far ⊢
  constructor
  · split at far <;> split <;> omega
  · split at far <;> omega

theorem tiltClp_clamped (real : s.sm = none) (far : 120 < (roundDiv s.os.tilt 10).natAbs) (user : TiltUser) :
    tiltClp user s = fireIn (.tiltClamp s.os.tilt (if 0 < s.os.tilt then 120 else -120) user) s.clock (chainage s) s.clp := by
  obtain ⟨clamped, changed⟩ := tiltNow_clamped real far
  unfold tiltClp
  rw [if_neg changed, clamped, tiltSample_real real]

/-- A computed strike of a latched loop, with the stroke above the bottom, fires TILT_CLAMP at most. -/
theorem computeStrike_above_bottom (hl : s.gl.loop = some l) (kind : l.kind ≠ .plunge) (latched : l.target ≠ .unlatched)
    (above : s.clp.consts.strokeBottom < strokeSeen s) (q : QStrike) (b : Int) :
    (computeStrike q b s).clp = tiltClp .gradeLoop s
    ∧ ((computeStrike q b s).gl.loop.bind (·.record)).map (·.tilt) = some (tiltNow s) := by
  have stays : latchTarget (measuredDepth b s) (fireTiltClamp .gradeLoop s) = atTarget l s := by
    rw [fireTiltClamp_eq, latchTarget_latched (l := l) (by exact hl) latched, atTarget, ← hl]
  cases reached : strikeTarget q l (atTarget l s) with
  | none =>
    rw [computeStrike_targetless stays rfl reached, strikeWithoutTarget_eq (s := atTarget l s) rfl]
    exact ⟨rfl, rfl⟩
  | some x =>
    rw [computeStrike_target (target := x.1) (line := x.2) stays rfl reached,
      strikeWithTarget_eq (s := atTarget l s) rfl (fun plunge => absurd plunge kind)]
    refine ⟨reachClp_of_ne (fun bottom => ?_) _ _, rfl⟩
    have low := ((limitOf_eq_bottom _ _ _).mp bottom).1
    rw [tiltClp_consts] at low
    exact absurd low (Nat.not_le.mpr above)

/-! ## The latching -/

/-- A loop that has just latched the measured depth of the strike it computes (R80, R85). -/
abbrev justLatched (depth : Int) (l : LoopCtx) (s : State) : LoopCtx :=
  cleared s.clp.consts { l with target := .latched depth }

/-- An error of 0 in an empty window decides HOLD (R86). -/
theorem decided_zero {depth : Int} (empty : l.window = []) :
    windowWith depth depth l = [0] ∧ filteredError (windowWith depth depth l) = 0 ∧ decided depth depth l = .hold := by
  have window : windowWith depth depth l = [0] := by rw [windowWith, empty, Int.sub_self]; rfl
  have zero : filteredError (windowWith depth depth l) = 0 := by rw [window]; rfl
  refine ⟨window, zero, ?_⟩
  rw [decided, zero, decide3_eq_hold]
  omega

/-- With the error 0 nothing is driven (R88 to R96). -/
theorem levels_zero {depth : Int} (empty : l.window = []) (q : QStrike) (s : State) :
    wantedBy depth depth l s = 0 ∧ slewedBy depth depth l s = 0 ∧ heldBy q depth depth l s = 0
      ∧ limitBy q depth depth l s = .none ∧ finalBy q depth depth l s = 0 := by
  obtain ⟨_, _, hold⟩ := decided_zero (depth := depth) empty
  have wanted : wantedBy depth depth l s = 0 := by rw [wantedBy, hold]; rfl
  have slewed : slewedBy depth depth l s = 0 := by rw [slewedBy, wanted]; exact if_pos rfl
  have held : heldBy q depth depth l s = 0 := by rw [heldBy, slewed, ite_self]
  have limit : limitBy q depth depth l s = .none := by
    rw [limitBy, held]
    exact (if_neg (by omega)).trans (if_neg (by omega))
  exact ⟨wanted, slewed, held, limit, by rw [finalBy, held, ite_self]⟩

/-- The part as the latching strike leaves it. -/
abbrev latchedStep (q : QStrike) (depth : Int) (l : LoopCtx) (s : State) : State :=
  { handOn 0 s with
    gl := { v := 0, loop := some { l with
      target := .latched depth, window := [0], settle := s.clp.consts.settleCount - 1, holdCount := 0
      record := some {
        chainage := q.chainage, tilt := tiltNow s, drop := tiltDrop s.clp.consts.mastLength (tiltNow s), depth := depth
        line := none, errors := some { target := depth, error := 0, filtered := 0, count := 1 }
        decision := .hold, wanted := 0, slewed := 0, final := 0, settle := s.clp.consts.settleCount - 1
        reverseHold := false, limit := .none } } }
    oq := { s.oq with pause := { s.oq.pause with reach := false } }
    clp := tiltClp .gradeLoop s }

theorem computeStrike_latches (hl : s.gl.loop = some l) (kind : l.kind = .hold) (unlatched : l.target = .unlatched)
    (q : QStrike) (b : Int) : computeStrike q b s = latchedStep q (measuredDepth b s) l s := by
  have latched : latchTarget (measuredDepth b s) (fireTiltClamp .gradeLoop s)
      = atTarget (justLatched (measuredDepth b s) l s) s := by
    rw [fireTiltClamp_eq, latchTarget_unlatched (l := l) (by exact hl) unlatched, tiltClp_consts]
  rw [computeStrike_target (target := measuredDepth b s) (line := none) latched rfl rfl,
    strikeWithTarget_eq (s := atTarget (justLatched (measuredDepth b s) l s) s) rfl fun plunge => by
      rw [show l.kind = .plunge from plunge] at kind; cases kind]
  obtain ⟨window, filtered, hold⟩ := decided_zero (l := justLatched (measuredDepth b s) l s) (depth := measuredDepth b s) rfl
  obtain ⟨wanted, slewed, held, limit, final⟩ := levels_zero (l := justLatched (measuredDepth b s) l s)
    (depth := measuredDepth b s) rfl q (atTarget (justLatched (measuredDepth b s) l s) s)
  have behind : behindHighWater (justLatched (measuredDepth b s) l s).kind
      (atTarget (justLatched (measuredDepth b s) l s) s).cc.chw q.chainage = false := by
    rw [show (justLatched (measuredDepth b s) l s).kind = .hold from kind]; rfl
  have count : nextHoldCount (justLatched (measuredDepth b s) l s).kind .hold
      (justLatched (measuredDepth b s) l s).holdCount = 0 := by
    rw [show (justLatched (measuredDepth b s) l s).kind = .hold from kind]; rfl
  have consts : (atTarget (justLatched (measuredDepth b s) l s) s).clp.consts = s.clp.consts := tiltClp_consts .gradeLoop s
  unfold targetStep loopBy recordBy
  rw [window, hold, wanted, slewed, held, limit, final, behind, count, consts, Int.sub_self]
  rfl

/-- Settles O25. -/
theorem tiltClampAndLatching : Obligations.TiltClampAndLatching := by
  intro q b s hb clamped fired k
  refine ⟨fun l due real far h kind hst latched above => ⟨_, exec_strike_inWindow h hb, ?_⟩,
    fun c real far hq act hc sampling unmoved few => ⟨_, exec_benchStrike hq, ?_⟩,
    fun r real far hq role hr collecting idle => ⟨_, exec_tieStrike hq, ?_⟩,
    fun l due h kind hst unlatched => ⟨_, exec_strike_inWindow h hb, ?_⟩⟩
  · have stroke : strokeSeen (seen l (taken s)) = s.os.stroke := by
      unfold strokeSeen
      rw [show (seen l (taken s)).sm = none from real]
    rw [beamSeen_eq (s := taken s) h.2.1 (.inl hst)]
    obtain ⟨clp, tilt⟩ := computeStrike_above_bottom (s := seen l (taken s)) (l := tracked l s) rfl kind latched
      (by rw [stroke]; exact above) q b
    refine ⟨clp.trans (tiltClp_clamped (s := seen l (taken s)) real far .gradeLoop), tilt.trans ?_⟩
    exact congrArg some (tiltNow_clamped real far).1
  · have few : ¬ k.benchStrikes ≤ (sampled q b c (benchTaken s)).samples.length := by
      rw [List.length_append, List.length_singleton]; omega
    rw [benchStep_eq (s := benchTaken s) act hb hc, if_pos sampling,
      (sampleBench_kept (s := benchTaken s) hc unmoved).trans (if_neg few)]
    exact tiltClp_clamped (s := benchTaken s) real far .bench
  · rw [tieStep_offers (s := tieTaken s) hr collecting (by exact role) hb,
      offerPair_candidate_alone (r := r) (by exact hr) (.inl idle)]
    exact tiltClp_clamped (s := tieTaken s) real far .tie
  · rw [beamSeen_eq (s := taken s) h.2.1 (.inl hst),
      computeStrike_latches (s := seen l (taken s)) (l := tracked l s) rfl kind unlatched]
    have kept : (if l.state = .acquiring then false else s.oq.pause.beam) = s.oq.pause.beam := by
      rw [hst, if_neg nofun]
    refine ⟨rfl, (handOn_zero_duties s).1, (handOn_zero_duties s).2, ?_, rfl, rfl, rfl, rfl, portKept_tiltClp .gradeLoop rfl⟩
    show { s.oq with pause := { s.oq.pause with
      beam := if l.state = LoopState.acquiring then false else s.oq.pause.beam, reach := false } } = _
    rw [kept]

end Sys2Proof.Proofs
end

section
/-! ENQUEUE (R141, R142) and the head that starts (R143, R147, R148, R150, R151) or fails its start check (R155, R156). -/

namespace Sys2Proof.Proofs

open Sys2Proof.Machine Sys2Proof.Safety Sys2Proof.Laws

variable {s t u : State} {op : Operation} {f : OpFields} {opTag standing : Nat}

/-! ## The operation a request carries -/

theorem inRange_iff (lo hi x : Nat) : inRange lo hi x = true ↔ lo ≤ x ∧ x ≤ hi := by
  unfold inRange
  rw [Bool.and_eq_true, decide_eq_true_eq, decide_eq_true_eq]

/-- An operation whose kind and parameters are coded, standing only where its kind may (R141). -/
theorem operationOf_eq {p : OpParams} (coded : opParamsOf f = some p) {st : Bool} (stands : st = false ∨ mayStand p = true)
    (tag : Nat) :
    operationOf tag f st.toNat = some { tag := tag, params := p, standing := st, state := .waiting } := by
  unfold operationOf
  rw [coded, markOf_toNat]
  rcases stands with rfl | h
  · rfl
  · simp [h]

theorem optionalOf_eq {lo hi : Nat} {x : Option Nat} (inside : ∀ d, x = some d → lo ≤ d ∧ d ≤ hi) :
    optionalOf x.isSome.toNat lo hi (x.getD 0) = some x := by
  cases x with
  | none => rfl
  | some d => exact if_pos ((inRange_iff _ _ _).mpr (inside d rfl))

theorem opParamsOf_dwell {time : Nat} (low : 100 ≤ time) (high : time ≤ 60000) :
    opParamsOf (.dwell time) = some (.dwell time) := if_pos ((inRange_iff _ _ _).mpr ⟨low, high⟩)

theorem opParamsOf_plunge {depth : Nat} (low : 300 ≤ depth) (high : depth ≤ 4595) :
    opParamsOf (.plunge depth) = some (.plunge depth) := if_pos ((inRange_iff _ _ _).mpr ⟨low, high⟩)

theorem opParamsOf_hold {target : Option Nat} {distance : Nat} (low : 100 ≤ distance) (high : distance ≤ 999999)
    (inside : ∀ d, target = some d → 300 ≤ d ∧ d ≤ 4595) :
    opParamsOf (.hold target.isSome.toNat (target.getD 0) distance) = some (.hold target distance) := by
  unfold opParamsOf
  simp only [optionalOf_eq inside]
  exact if_pos ((inRange_iff _ _ _).mpr ⟨low, high⟩)

/-! ## ENQUEUE taken and refused -/

theorem enqueueTest_taken (carried : operationOf opTag f standing = some op) (sound : s.oq.seq ≠ .faulted)
    (room : s.oq.ops.length < 4) (sealed_ : unsealedDig op.params s = false) :
    enqueueTest opTag f standing s = .inr op := by
  simp [enqueueTest, carried, sound, queueCapacity, Nat.not_le.mpr room, sealed_]

theorem enqueueTest_full (carried : operationOf opTag f standing = some op) (sound : s.oq.seq ≠ .faulted)
    (full : 4 ≤ s.oq.ops.length) : enqueueTest opTag f standing s = .inl .full := by
  simp [enqueueTest, carried, sound, queueCapacity, full]

theorem exec_enqueue_taken (test : enqueueTest opTag f standing s = .inr op) (tag : Nat) :
    exec (.enqueue tag opTag f standing) s
      = .next (answer .enqueue tag .ok (.enqueued s.oq.ops.length (s.oq.ops.length + 1))
          (formPermit (takeOperation op s))) := by
  simp [exec, execEnqueue, test]

theorem exec_enqueue_refused {code : ResultCode} (test : enqueueTest opTag f standing s = .inl code) (tag : Nat) :
    exec (.enqueue tag opTag f standing) s = .next (refuse .enqueue tag code s) := by
  simp [exec, execEnqueue, test]

theorem takeOperation_waits (held : s.oq.ops ≠ []) (op : Operation) : takeOperation op s = appendOperation op s := by
  unfold takeOperation
  exact if_neg (by simpa using held)

theorem takeOperation_starts (empty : s.oq.ops = []) (op : Operation) :
    takeOperation op s = startHead 2 (appendOperation op s) := by
  have ops : (appendOperation op s).oq.ops = [op] := by rw [appendOperation_oq, empty]; rfl
  unfold takeOperation
  dsimp only
  rw [if_pos (by rw [empty]; rfl), ops]
  rfl

/-- ENQUEUE on an empty queue starts its operation. -/
theorem exec_enqueue_head (empty : s.oq.ops = []) (idle : s.oq.seq = .idle)
    (carried : operationOf opTag f standing = some op) (sealed_ : unsealedDig op.params s = false) (tag : Nat) :
    exec (.enqueue tag opTag f standing) s
      = .next (answer .enqueue tag .ok (.enqueued 0 1) (formPermit (startHead 2 (appendOperation op s)))) := by
  rw [exec_enqueue_taken (enqueueTest_taken carried (by rw [idle]; exact nofun) (by rw [empty]; exact Nat.zero_lt_succ 3)
    sealed_), takeOperation_starts empty, empty]
  rfl

/-- The record of an operation that has just begun (R143). -/
abbrev justBegun (op : Operation) (s : State) : Operation :=
  { op with state := .executing { startTime := s.clock, cycles := 0, cycleChainage := 0, cycleTime := 0 } }

/-- The part whose queue holds the one operation that has just begun. -/
abbrev begun (op : Operation) (s : State) : State :=
  { s with oq := { s.oq with ops := [justBegun op s], seq := .executing } }

theorem appendOperation_of_not_dig (empty : s.oq.ops = []) (h : kindOf op.params ≠ .dig) :
    appendOperation op s = { s with oq := { s.oq with ops := [op] } } := by
  unfold appendOperation adjustInUse
  rw [empty]
  cases hp : op.params with
  | dig n k0 e c0 => rw [hp] at h; exact absurd rfl h
  | _ => rfl

theorem unsealedDig_of_not_dig (h : kindOf op.params ≠ .dig) (s : State) : unsealedDig op.params s = false := by
  unfold unsealedDig
  cases hp : op.params with
  | dig n k0 e c0 => rw [hp] at h; exact absurd rfl h
  | _ => rfl

theorem markStarted_append (empty : s.oq.ops = []) (idle : s.oq.seq = .idle) (h : kindOf op.params ≠ .dig) :
    markStarted (appendOperation op s) = begun op s := by
  rw [appendOperation_of_not_dig empty h, markStarted_cons (by rfl)]
  simp only [idle, if_true]

/-- A head that is no DIG and passes its checks (R143). -/
theorem exec_enqueue_started (empty : s.oq.ops = []) (idle : s.oq.seq = .idle)
    (carried : operationOf opTag f standing = some op) (h : kindOf op.params ≠ .dig)
    (passed : startCheck op.params (begun op s) = none) (notDone : liftDoneAtOnce op.params (begun op s) = false)
    (actions : startActions op.params (begun op s) = u) (tag : Nat) :
    exec (.enqueue tag opTag f standing) s = .next (answer .enqueue tag .ok (.enqueued 0 1) (formPermit u)) := by
  have ops : (appendOperation op s).oq.ops = op :: [] := by rw [appendOperation_oq, empty]; rfl
  rw [exec_enqueue_head empty idle carried (unsealedDig_of_not_dig h s),
    startHead_started ops (by rw [markStarted_append empty idle h]; exact passed)
      (by rw [markStarted_append empty idle h]; exact notDone), markStarted_append empty idle h, actions]

/-- A head that fails its start check leaves the queue FAILED (R144, R155). -/
theorem startHead_failed {why : OpReason} (hops : s.oq.ops = [op]) (failed : startCheck op.params (markStarted s) = some why)
    (fuel : Nat) : startHead (fuel + 2) s = completeHead .failed why (markStarted s) := by
  have ops : (markStarted s).oq.ops = [justBegun op s] := by rw [markStarted_cons hops]
  rw [completeHead_single ops]
  conv_lhs => unfold startHead
  split
  next h => rw [hops] at h; cases h
  next op' _ h =>
    obtain ⟨rfl, _⟩ := List.cons.inj (hops.symm.trans h)
    dsimp only
    rw [failed]
    exact startHead_nil (by rw [(leaveQueue_cons ops .failed why).1]) fuel

theorem operationOf_tag (carried : operationOf opTag f standing = some op) : op.tag = opTag := by
  unfold operationOf at carried
  split at carried
  · split at carried
    · cases carried
    · cases carried; rfl
  · cases carried

theorem mayStand_of_plunge {p : OpParams} (h : kindOf p = .plunge) : mayStand p = false := by
  cases p with
  | plunge depth => rfl
  | _ => cases h

theorem planeCheck_passed {i : Fin 8} (act : activeEntry s = some i) : planeCheck s = none := by
  unfold planeCheck; rw [act]; rfl

theorem planeCheck_failed (act : activeEntry s = none) : planeCheck s = some .noPlane := by
  unfold planeCheck; rw [act]; rfl

theorem startCheck_of_plane (h : kindOf op.params = .plunge ∨ kindOf op.params = .hold) (s : State) :
    startCheck op.params s = planeCheck s := by
  cases hp : op.params with
  | plunge depth => rfl
  | hold target distance => rfl
  | _ => rw [hp] at h; rcases h with h | h <;> cases h

theorem startHold_eq {info : RunInfo} {rest : List Operation} (hops : s.oq.ops = op :: rest)
    (hst : op.state = .executing info) (target : Option Nat) : startHold target s = { s with
      gl := { s.gl with loop := some (newLoop .hold s.clp.consts.holdShallowBand s.clp.consts.holdDeepBand
        (match target with
          | some d => .given d
          | none => .unlatched) s.clp.consts) }
      oq := { s.oq with
        pause := { s.oq.pause with beam := true }
        ops := { op with state := .executing { info with cycles := 1, cycleChainage := chainage s } } :: rest } } := by
  unfold startHold
  rw [modifyHead_eq hops hst, createLoop_eq]
  cases target <;> rfl

/-- The duties of the one operation that has begun are held off in a shadow run and by a fault alone (R161). -/
theorem dutiesHeld_begun (op : Operation) (s : State) : dutiesHeld (begun op s) = (s.sm.isSome || s.os.faulted) :=
  Bool.or_false _

theorem lowerDutyFor_natCast (k : Constants) (v : Nat) : lowerDutyFor k v = 0 := if_neg (by omega)

/-- A LIFT does not travel (R169). -/
theorem permitHolds_of_lift (kind : executingKind s = some .lift) : permitHolds s = false := by
  unfold permitHolds
  rw [operationTravels_eq, kind]
  rfl

/-- An answer to ENQUEUE shows nothing of the queue's end. -/
theorem queueDone_answer {q : Request} {result : ResultCode} {c : Contents} (h : queueDone (formPermit u)) (tag : Nat) :
    queueDone (answer q tag result c (formPermit u)) := h

/-- A LIFT as ENQUEUE carries it. -/
abbrev liftOp (opTag : Nat) : Operation := { tag := opTag, params := .lift, standing := false, state := .waiting }

/-- The part once a LIFT has started (R150). -/
abbrev lifting (opTag : Nat) (s : State) : State := handOn s.clp.consts.liftDrive (begun (liftOp opTag) s)

theorem lifting_eq (opTag : Nat) (s : State) : startActions .lift (begun (liftOp opTag) s) = lifting opTag s := rfl

/-- Settles O36. -/
theorem enqueueWaitsOrStarts : Obligations.EnqueueWaitsOrStarts := by
  intro tag opTag s
  refine ⟨fun f standing op held room sound carried sealed_ => ?_, fun f standing op full sound carried =>
      exec_enqueue_refused (enqueueTest_full carried sound full) tag, fun empty idle below => ?_,
    fun time st empty idle low high => ?_, fun depth i empty idle low high act => ?_,
    fun target distance st i empty idle low high inside act => ?_, fun f standing op empty idle carried kind act => ?_⟩
  · rw [exec_enqueue_taken (enqueueTest_taken carried sound room sealed_), takeOperation_waits held]
    rfl
  · have started := exec_enqueue_started empty idle (operationOf_eq (p := .lift) (f := .lift) rfl (.inl rfl) opTag) nofun rfl
      (decide_eq_false (Nat.not_le.mpr below)) (lifting_eq opTag s) tag
    refine ⟨_, started, rfl, rfl, permitHolds_of_lift (s := lifting opTag s) rfl, ?_, ?_, rfl, rfl⟩
    · refine (handOn_raiseDuty _ _).trans ?_
      rw [dutiesHeld_begun]
    · refine (handOn_lowerDuty _ _).trans ?_
      rw [lowerDutyFor_natCast, ite_self]
  · rw [exec_enqueue_started empty idle (operationOf_eq (opParamsOf_dwell low high) (.inr rfl) opTag) nofun rfl rfl rfl]
    rfl
  · show exec (.enqueue tag opTag (.plunge depth) false.toNat) s = _
    rw [exec_enqueue_started empty idle (operationOf_eq (opParamsOf_plunge low high) (.inl rfl) opTag) nofun
      (planeCheck_passed act) rfl rfl]
    rfl
  · rw [exec_enqueue_started empty idle (operationOf_eq (opParamsOf_hold low high inside) (.inr rfl) opTag) nofun
      (planeCheck_passed act) rfl (startHold_eq rfl rfl target)]
    rfl
  · have notDig : kindOf op.params ≠ .dig := by rcases kind with h | h <;> rw [h] <;> exact nofun
    have ops : (appendOperation op s).oq.ops = [op] := by rw [appendOperation_oq, empty]; rfl
    have failed : startCheck op.params (markStarted (appendOperation op s)) = some .noPlane := by
      rw [markStarted_append empty idle notDig, startCheck_of_plane kind]
      exact planeCheck_failed act
    have step := exec_enqueue_head empty idle carried (unsealedDig_of_not_dig notDig s) tag
    rw [startHead_failed ops failed, markStarted_append empty idle notDig] at step
    have done := completed_of_single (s := begun op s) (op := justBegun op s) rfl .failed .noPlane
    have tagged : op.tag = opTag := operationOf_tag carried
    refine ⟨_, cyclesReported (justBegun op s) s.free, step, queueDone_answer done.queueDone tag, ?_, ?_, fun plunge => ?_,
      ?_, ?_, ?_, ?_⟩
    · rw [answer_oq, formPermit_oq, done.oq]
      rfl
    · rw [answer_clp, formPermit_clp, done.clp, ← tagged]
      rfl
    · exact if_neg (by rw [mayStand_of_plunge plunge]; exact nofun)
    · rw [answer_pat, formPermit_pat, done.pat]
    · rw [answer_ss, formPermit_ss]
      exact completeHead_ss_of_not_dig (s := begun op s) rfl notDig .failed .noPlane
    · rw [answer_te, formPermit_te, done.te]
    · rw [answer_cc, formPermit_cc, done.cc]

end Sys2Proof.Proofs
end

section
/-! The start of a DIG (R143 to R145, R119, R120) and the start checks it fails (R144). -/

namespace Sys2Proof.Proofs

open Sys2Proof.Machine Sys2Proof.Safety Sys2Proof.Laws

variable {s t u : State} {n : Fin 6} {k0 : Nat} {e : Fin 8} {c0 : Option Nat} {opTag : Nat}

/-! ## The DIG that a request carries -/

theorem opParamsOf_dig (first : k0 ≤ 19) (inside : ∀ c, c0 = some c → c ≤ 999999) :
    opParamsOf (.dig (n.val + 1) k0 e.val c0.isSome.toNat (c0.getD 0)) = some (.dig n k0 e c0) := by
  have coded : optionalOf c0.isSome.toNat 0 999999 (c0.getD 0) = some c0 :=
    optionalOf_eq fun c h => ⟨Nat.zero_le c, inside c h⟩
  simp [opParamsOf, coded, first]

/-- A DIG as ENQUEUE carries it. -/
abbrev digOp (opTag : Nat) (n : Fin 6) (k0 : Nat) (e : Fin 8) (c0 : Option Nat) : Operation :=
  { tag := opTag, params := .dig n k0 e c0, standing := false, state := .waiting }

/-- The part whose queue holds a DIG that has just begun: its sheet is in use once more (R45, R143). -/
abbrev digBegun (opTag : Nat) (n : Fin 6) (k0 : Nat) (e : Fin 8) (c0 : Option Nat) (s : State) : State :=
  modifySheet n (fun h => { h with inUse := h.inUse + 1 }) (begun (digOp opTag n k0 e c0) s)

theorem markStarted_append_dig (empty : s.oq.ops = []) (idle : s.oq.seq = .idle) :
    markStarted (appendOperation (digOp opTag n k0 e c0) s) = digBegun opTag n k0 e c0 s := by
  have ops : (appendOperation (digOp opTag n k0 e c0) s).oq.ops = [digOp opTag n k0 e c0] := by
    rw [appendOperation_oq, empty]; rfl
  have seq : (appendOperation (digOp opTag n k0 e c0) s).oq.seq = .idle := by rw [appendOperation_oq, idle]
  rw [markStarted_cons ops, seq]
  unfold appendOperation adjustInUse
  rfl

theorem body_digBegun (m : Fin 6) : (sheetAt (digBegun opTag n k0 e c0 s) m).body = (sheetAt s m).body :=
  adjustInUse_body (· + 1) (.dig n k0 e c0) (begun (digOp opTag n k0 e c0) s) m

/-! ## The start checks -/

theorem digCheck_short (short : (segmentsOf (sheetAt s n).body).length ≤ k0) :
    digCheck n k0 e c0 s = some .badSegment := if_pos short

theorem digCheck_role (long : k0 < (segmentsOf (sheetAt s n).body).length)
    (other : (entryAt s e).role ≠ .standby ∧ (entryAt s e).role ≠ .active) : digCheck n k0 e c0 s = some .planeRole :=
  (if_neg (Nat.not_le.mpr long)).trans (if_pos other)

theorem digCheck_busy (long : k0 < (segmentsOf (sheetAt s n).body).length) (role : (entryAt s e).role = .standby)
    (tie : s.te.tie ≠ none) : digCheck n k0 e c0 s = some .tieBusy := by
  refine (if_neg (Nat.not_le.mpr long)).trans ((if_neg fun other => other.1 role).trans (if_pos ⟨?_, ?_⟩))
  · rw [role]; exact nofun
  · exact Option.isSome_iff_ne_none.mpr tie

theorem digCheck_last (long : k0 < (segmentsOf (sheetAt s n).body).length)
    (role : (entryAt s e).role = .active ∨ ((entryAt s e).role = .standby ∧ s.te.tie = none)) :
    digCheck n k0 e c0 s = if 999999 < c0.getD (chainage s) + totalLength ((segmentsOf (sheetAt s n).body).drop k0) then
      some .range else none := by
  refine (if_neg (Nat.not_le.mpr long)).trans ((if_neg ?_).trans (if_neg ?_))
  · rintro ⟨standby, active⟩
    rcases role with h | ⟨h, _⟩
    · exact active h
    · exact standby h
  · rintro ⟨active, busy⟩
    rcases role with h | ⟨_, idle⟩
    · exact active h
    · unfold tieInFlight at busy
      rw [idle] at busy
      cases busy

/-! ## A DIG that fails -/

/-- A DIG that fails gives its sheet back (R45). -/
theorem ss_failed_dig (why : OpReason) :
    (completeHead .failed why (digBegun opTag n k0 e c0 s)).ss = s.ss := by
  rw [completeHead_single (op := justBegun (digOp opTag n k0 e c0) s) rfl]
  show (leaveQueue .failed why (digBegun opTag n k0 e c0 s)).ss = _
  rw [leaveQueue_ss (op := justBegun (digOp opTag n k0 e c0) s) (rest := []) rfl]
  show (s.ss.set n.val { s.ss[n.val] with inUse := s.ss[n.val].inUse + 1 }).set n.val
    { (s.ss.set n.val { s.ss[n.val] with inUse := s.ss[n.val].inUse + 1 })[n.val] with
      inUse := (s.ss.set n.val { s.ss[n.val] with inUse := s.ss[n.val].inUse + 1 })[n.val].inUse - 1 } = s.ss
  simp only [Vector.set_set, Vector.getElem_set_self, Nat.add_sub_cancel]
  exact Vector.set_getElem_self n.isLt

/-- What is asked of a DIG that fails a start check (R144, R155, R156). -/
theorem exec_enqueue_dig_failed {why : OpReason} (empty : s.oq.ops = []) (idle : s.oq.seq = .idle) (first : k0 ≤ 19)
    (inside : ∀ c, c0 = some c → c ≤ 999999) (closed : isSealed (sheetAt s n).body = true)
    (failed : digCheck n k0 e c0 (digBegun opTag n k0 e c0 s) = some why) (tag : Nat) :
    exec (.enqueue tag opTag (.dig (n.val + 1) k0 e.val c0.isSome.toNat (c0.getD 0)) 0) s
      = .next (answer .enqueue tag .ok (.enqueued 0 1)
          (formPermit (completeHead .failed why (digBegun opTag n k0 e c0 s)))) := by
  have carried := operationOf_eq (st := false) (opParamsOf_dig (n := n) (e := e) first inside) (.inl rfl) opTag
  have ops : (appendOperation (digOp opTag n k0 e c0) s).oq.ops = [digOp opTag n k0 e c0] := by
    rw [appendOperation_oq, empty]; rfl
  have check : startCheck (digOp opTag n k0 e c0).params (markStarted (appendOperation (digOp opTag n k0 e c0) s))
      = some why := by rw [markStarted_append_dig empty idle]; exact failed
  have sealed_ : unsealedDig (digOp opTag n k0 e c0).params s = false := by
    show (!isSealed (sheetAt s n).body) = false
    rw [closed]; rfl
  show exec (.enqueue tag opTag _ false.toNat) s = _
  rw [exec_enqueue_head empty idle carried sealed_, startHead_failed ops check, markStarted_append_dig empty idle]

/-! ## The planes of a run -/

theorem activeEntry_of_only (active : (entryAt s e).role = .active) (only : ∀ j, j ≠ e → (entryAt s j).role ≠ .active) :
    activeEntry s = some e := by
  cases act : activeEntry s with
  | none => exact absurd active (not_active_of_none act e)
  | some i =>
    by_contra other
    exact only i (fun same => other (congrArg some same)) (role_of_activeEntry act)

/-- At most one entry is ACTIVE (R18). -/
abbrev oneActive (s : State) : Prop :=
  ∀ i j, (entryAt s i).role = .active → (entryAt s j).role = .active → i = j

/-- The entry a DIG names is made ACTIVE and keeps the rest (R145). -/
theorem entryAt_makeActive_same (role : (entryAt s e).role = .standby ∨ (entryAt s e).role = .active) :
    entryAt (makeActive e s) e = { entryAt s e with role := .active } := by
  rcases role with h | h
  · have notActive : ¬ (entryAt s e).role = .active := by rw [h]; exact nofun
    unfold makeActive
    rw [if_neg notActive, entryAt_modifyEntry_same, entryAt_mapEntries, if_neg notActive]
  · unfold makeActive
    rw [if_pos h, ← h]

/-- Another ACTIVE entry goes back to STANDBY without its tie (R145). -/
theorem entryAt_makeActive_was_active {j : Fin 8} (one : oneActive s) (other : j ≠ e) (was : (entryAt s j).role = .active) :
    entryAt (makeActive e s) j = { entryAt s j with role := .standby, tie := none } := by
  have notActive : ¬ (entryAt s e).role = .active := fun h => other (one j e was h)
  unfold makeActive
  rw [if_neg notActive, entryAt_modifyEntry_of_ne other, entryAt_mapEntries, if_pos was]

theorem entryAt_makeActive_other {j : Fin 8} (other : j ≠ e) (was : (entryAt s j).role ≠ .active) :
    entryAt (makeActive e s) j = entryAt s j := by
  unfold makeActive
  split
  · rfl
  · rw [entryAt_modifyEntry_of_ne other, entryAt_mapEntries, if_neg was]

/-! ## The contexts of a run -/

/-- The part whose chainage is the start of a run, its entry ACTIVE (R145, R27). -/
abbrev runPlaced (e : Fin 8) (s : State) : State :=
  { s with pat := (makeActive e s).pat, cc := { s.cc with chw := some (chainage s) } }

theorem runPlaced_eq (e : Fin 8) (s : State) :
    { makeActive e s with cc := { (makeActive e s).cc with chw := some (chainage s) } } = runPlaced e s := by
  rw [makeActive_keeps]

/-- The part with the tie a run starts with, or with the bench that will make one (R119, R120). -/
abbrev firstTied (start : Option Nat) (e : Fin 8) (c : Nat) (s : State) : State :=
  match start with
  | some d => modifyEntry e (fun p => { p with tie := some { pb := d, cb := c } }) s
  | none => startBench (modifyEntry e (fun p => { p with tie := none }) s)

theorem firstTie_eq {h : Header} (idle : s.te.tie = none) (header : headerIn (sheetAt s n).body = some h) (e : Fin 8)
    (c : Nat) : firstTie n e c s = firstTied h.startDepth e c s := by
  cases start : h.startDepth <;> simp [firstTie, endTie_of_none idle, header, start]

theorem firstTied_keeps (start : Option Nat) (e : Fin 8) (c : Nat) (s : State) :
    firstTied start e c s = { s with
      pat := (firstTied start e c s).pat, te := (firstTied start e c s).te
      oq := { s.oq with pause := (firstTied start e c s).oq.pause } } := by
  cases start <;> rfl

/-- The port once the marker of a segment has fired, where it carries one (R62). -/
def markerClp (c : CurrentSegment) (s : State) : Clp :=
  if c.marker = .none then s.clp else fireIn (.marker c.marker c.index c.cs) s.clock (chainage s) s.clp

theorem markerClp_consts (c : CurrentSegment) (s : State) : (markerClp c s).consts = s.clp.consts := by
  unfold markerClp
  split
  · rfl
  · rw [fireIn_consts]

theorem createLoop_fireMarker (c : CurrentSegment) (kind : LoopKind) (shallow deep : Nat) (target : ConstTarget) (s : State) :
    createLoop kind shallow deep target (fireMarker c s) = { s with
      clp := markerClp c s
      gl := { s.gl with loop := some (newLoop kind shallow deep target s.clp.consts) }
      oq := { s.oq with pause := { s.oq.pause with beam := true } } } := by
  rw [createLoop_eq, fireMarker_eq]
  show withPause _ { s with
    clp := markerClp c s
    gl := { s.gl with loop := some (newLoop kind shallow deep target (markerClp c s).consts) } } = _
  rw [markerClp_consts]
  rfl

/-- The part once a run and its loop are created (R51, R71). -/
abbrev runCreated (n : Fin 6) (k0 : Nat) (h : Header) (l : List Segment) (g : Segment) (c : Nat) (s : State) : State :=
  { s with
    lt := some (newRun n k0 c h l g)
    clp := markerClp (currentOf k0 c 0 g) s
    gl := { s.gl with loop := some (newLoop .dig h.shallow h.deep .absent s.clp.consts) }
    oq := { s.oq with pause := { s.oq.pause with beam := true } } }

/-- The loop of a DIG takes its bands from the header of the sheet (R71). -/
theorem startDigHere_of_run {h : Header} (created : createRun n k0 (chainage s) (firstTie n e (chainage s) (runPlaced e s)) = u)
    (header : headerIn (sheetAt u n).body = some h) :
    startDigHere n k0 e s = createLoop .dig h.shallow h.deep .absent u := by
  unfold startDigHere
  rw [runPlaced_eq]
  dsimp only
  rw [created, header]

/-- The start actions of a DIG at its chainage (R145). -/
theorem startDigHere_eq {h : Header} {l : List Segment} {g : Segment} (idle : s.te.tie = none)
    (body : (sheetAt s n).body = .sealed h l) (hg : l[k0]? = some g) (e : Fin 8) :
    startDigHere n k0 e s = runCreated n k0 h l g (chainage s) (firstTied h.startDepth e (chainage s) (runPlaced e s)) := by
  have sheet : (sheetAt (firstTied h.startDepth e (chainage s) (runPlaced e s)) n).body = .sealed h l := by
    rw [firstTied_keeps]; exact body
  have tied : firstTie n e (chainage s) (runPlaced e s) = firstTied h.startDepth e (chainage s) (runPlaced e s) :=
    firstTie_eq (by exact idle) (by rw [show (sheetAt (runPlaced e s) n).body = .sealed h l from body]; rfl) e _
  have created : createRun n k0 (chainage s) (firstTied h.startDepth e (chainage s) (runPlaced e s))
      = fireMarker (currentOf k0 (chainage s) 0 g) { firstTied h.startDepth e (chainage s) (runPlaced e s) with
          lt := some (newRun n k0 (chainage s) h l g) } := by
    rw [createRun_eq (g := g) (hd := h) (by rw [sheet]; exact hg) (by rw [sheet]; rfl), sheet]
    rfl
  rw [startDigHere_of_run (h := h) (by rw [tied, created]) (by
    rw [fireMarker_eq]
    show headerIn (sheetAt (firstTied h.startDepth e (chainage s) (runPlaced e s)) n).body = _
    rw [sheet]; rfl), createLoop_fireMarker]
  rfl

/-- The part whose run starts at its own chainage, before the first tie. -/
abbrev digPlaced (opTag : Nat) (n : Fin 6) (k0 : Nat) (e : Fin 8) (c : Nat) (s : State) : State :=
  runPlaced e (setTheChainage c (digBegun opTag n k0 e (some c) s))

/-- A DIG with its own start chainage that passes its checks (R143 to R145). -/
theorem exec_enqueue_dig {c : Nat} {h : Header} {l : List Segment} {g : Segment} (empty : s.oq.ops = [])
    (idle : s.oq.seq = .idle) (noTie : s.te.tie = none) (first : k0 ≤ 19) (inside : c ≤ 999999)
    (body : (sheetAt s n).body = .sealed h l) (hg : l[k0]? = some g) (fits : c + totalLength (l.drop k0) ≤ 999999)
    (role : (entryAt s e).role = .standby ∨ (entryAt s e).role = .active) (tag : Nat) :
    exec (.enqueue tag opTag (.dig (n.val + 1) k0 e.val 1 c) 0) s
      = .next (answer .enqueue tag .ok (.enqueued 0 1) (formPermit (runCreated n k0 h l g c (firstTied h.startDepth e c
          (digPlaced opTag n k0 e c s))))) := by
  have carried := operationOf_eq (st := false) (opParamsOf_dig (n := n) (e := e) (c0 := some c) first
    (fun c' same => (Option.some.inj same) ▸ inside)) (.inl rfl) opTag
  have ops : (appendOperation (digOp opTag n k0 e (some c)) s).oq.ops = digOp opTag n k0 e (some c) :: [] := by
    rw [appendOperation_oq, empty]; rfl
  have sealed_ : unsealedDig (digOp opTag n k0 e (some c)).params s = false := by
    show (!isSealed (sheetAt s n).body) = false
    rw [body]; rfl
  have begins := markStarted_append_dig (opTag := opTag) (n := n) (k0 := k0) (e := e) (c0 := some c) empty idle
  have body' : (sheetAt (digBegun opTag n k0 e (some c) s) n).body = .sealed h l := (body_digBegun n).trans body
  have long : k0 < l.length := (List.getElem?_eq_some_iff.mp hg).1
  have check : startCheck (digOp opTag n k0 e (some c)).params (digBegun opTag n k0 e (some c) s) = none := by
    show digCheck n k0 e (some c) (digBegun opTag n k0 e (some c) s) = none
    rw [digCheck_last (s := digBegun opTag n k0 e (some c) s) (by rw [body']; exact long)
      (role.symm.imp id fun standby => ⟨standby, noTie⟩), body']
    exact if_neg (Nat.not_lt.mpr fits)
  have placed : chainage (setTheChainage c (digBegun opTag n k0 e (some c) s)) = c := by
    show (setTheChainage c (digBegun opTag n k0 e (some c) s)).cc.acc / 1000 = c
    rw [setTheChainage_cc]
    show 1000 * c / 1000 = c
    omega
  have started : startDig n k0 e (some c) (digBegun opTag n k0 e (some c) s) = runCreated n k0 h l g c
      (firstTied h.startDepth e c (digPlaced opTag n k0 e c s)) := by
    show startDigHere n k0 e (setTheChainage c (digBegun opTag n k0 e (some c) s)) = _
    have idle' : (setTheChainage c (digBegun opTag n k0 e (some c) s)).te.tie = none := by
      show s.te.tie.map _ = none
      rw [noTie]; rfl
    rw [startDigHere_eq idle' (by exact body') hg, placed]
  show exec (.enqueue tag opTag (.dig (n.val + 1) k0 e.val (some c).isSome.toNat ((some c).getD 0)) false.toNat) s = _
  rw [exec_enqueue_head empty idle carried sealed_, startHead_started ops (by rw [begins]; exact check) (by rw [begins]; rfl),
    begins]
  show _ = Host.Outcome.next (answer .enqueue tag .ok (.enqueued 0 1) (formPermit _))
  rw [← started]
  rfl

/-- The second half of the start of a DIG: the planes (R119, R145). -/
theorem entryAt_firstTied_other {j : Fin 8} (other : j ≠ e) (start : Option Nat) (c : Nat) (s : State) :
    entryAt (firstTied start e c s) j = entryAt s j := by
  cases start with
  | some d => exact entryAt_modifyEntry_of_ne other _ s
  | none => exact entryAt_modifyEntry_of_ne other (fun p => { p with tie := none }) s

theorem entryAt_firstTied_same (start : Option Nat) (e : Fin 8) (c : Nat) (s : State) :
    entryAt (firstTied start e c s) e = { entryAt s e with tie := start.map fun d => { pb := (d : Int), cb := c } } := by
  cases start with
  | some d => exact entryAt_modifyEntry_same e (fun p => { p with tie := some { pb := (d : Int), cb := c } }) s
  | none => exact entryAt_modifyEntry_same e (fun p => { p with tie := none }) s

/-- The entry a run is tied to is the one ACTIVE entry (R18, R145). -/
theorem activeEntry_firstTied (one : oneActive s) (role : (entryAt s e).role = .standby ∨ (entryAt s e).role = .active)
    (start : Option Nat) (c : Nat) : activeEntry (firstTied start e c (runPlaced e s)) = some e := by
  refine activeEntry_of_only ?_ fun j other => ?_
  · rw [entryAt_firstTied_same]
    show (entryAt (makeActive e s) e).role = _
    rw [entryAt_makeActive_same role]
  · rw [entryAt_firstTied_other other]
    show (entryAt (makeActive e s) j).role ≠ _
    by_cases was : (entryAt s j).role = .active
    · rw [entryAt_makeActive_was_active one other was]
      exact nofun
    · rwa [entryAt_makeActive_other other was]

/-- What the first tie of a run sets besides the planes (R119, R120). -/
theorem firstTied_bench (start : Option Nat) (e : Fin 8) (c : Nat) (s : State) :
    (∀ d, start = some d → (firstTied start e c s).te.bench = s.te.bench)
    ∧ (start = none → (firstTied start e c s).oq.pause.bench = true
      ∧ (firstTied start e c s).te.bench = some {
        sampling := decide (s.cc.still = .still), samples := [], reference := none, moveRestarts := 0, spreadRestarts := 0 }) := by
  cases start with
  | some d => exact ⟨fun _ _ => rfl, nofun⟩
  | none => exact ⟨nofun, fun _ => ⟨rfl, rfl⟩⟩

theorem digPlaced_cc (c : Nat) : (digPlaced opTag n k0 e c s).cc
    = { s.cc with acc := 1000 * c, limitLatch := false, anchor := c, chw := some c } := by
  have cc := setTheChainage_cc c (digBegun opTag n k0 e (some c) s)
  have placed : chainage (setTheChainage c (digBegun opTag n k0 e (some c) s)) = c := by
    show (setTheChainage c (digBegun opTag n k0 e (some c) s)).cc.acc / 1000 = c
    rw [cc]
    show 1000 * c / 1000 = c
    omega
  show { (setTheChainage c (digBegun opTag n k0 e (some c) s)).cc with
    chw := some (chainage (setTheChainage c (digBegun opTag n k0 e (some c) s))) } = _
  rw [placed, cc]
  rfl

theorem sheetAt_digPlaced_same {h : Header} {l : List Segment} (body : (sheetAt s n).body = .sealed h l) (c : Nat) :
    sheetAt (digPlaced opTag n k0 e c s) n = { body := .sealed h l, inUse := (sheetAt s n).inUse + 1 } := by
  rw [← body]
  exact sheetAt_modifySheet_same n (fun h => { h with inUse := h.inUse + 1 }) s

theorem sheetAt_digPlaced_other {m : Fin 6} (other : m ≠ n) (c : Nat) :
    sheetAt (digPlaced opTag n k0 e c s) m = sheetAt s m :=
  sheetAt_modifySheet_of_ne other (fun h => { h with inUse := h.inUse + 1 }) s

theorem sheetAt_of_ss (h : t.ss = u.ss) (m : Fin 6) : sheetAt t m = sheetAt u m := by unfold sheetAt; rw [h]

theorem activeEntry_of_pat (h : t.pat = u.pat) : activeEntry t = activeEntry u := by
  unfold activeEntry
  simp only [entryAt_of_pat h]

/-- Settles O37. -/
theorem enqueueStartsADig : Obligations.EnqueueStartsADig := by
  refine ⟨?_, ?_⟩
  · intro tag opTag k0 c0 n e h l g s empty idle noTie first inside body hg fits role law
    refine ⟨_, exec_enqueue_dig empty idle noTie first inside body hg fits role tag, ?_⟩
    have one : oneActive s := fun i j => (law i j).2.1
    have tied := firstTied_keeps h.startDepth e c0 (digPlaced opTag n k0 e c0 s)
    have same := entryAt_firstTied_same h.startDepth e c0 (digPlaced opTag n k0 e c0 s)
    have others (j : Fin 8) (other : j ≠ e) :=
      entryAt_firstTied_other other h.startDepth c0 (digPlaced opTag n k0 e c0 s)
    have act := activeEntry_firstTied (s := setTheChainage c0 (digBegun opTag n k0 e (some c0) s)) one role h.startDepth c0
    obtain ⟨run, bench⟩ := firstTied_bench h.startDepth e c0 (digPlaced opTag n k0 e c0 s)
    rw [show entryAt (digPlaced opTag n k0 e c0 s) e = _ from entryAt_makeActive_same (by exact role)] at same
    generalize firstTied h.startDepth e c0 (digPlaced opTag n k0 e c0 s) = v at *
    obtain ⟨pat, te, pause, rfl⟩ : ∃ pat te pause, v = { digPlaced opTag n k0 e c0 s with
      pat := pat, te := te, oq := { (digPlaced opTag n k0 e c0 s).oq with pause := pause } } := ⟨_, _, _, tied⟩
    refine ⟨rfl, rfl, rfl, rfl, permitHolds_of_beam rfl, ?_, fun m other => ?_, ?_, ?_, fun j other was => ?_,
      fun j other was => ?_, rfl, ?_, fun marks => ?_, fun d start => ⟨?_, run d start⟩,
      fun start => ⟨?_, bench start⟩⟩
    · refine .trans ?_ (sheetAt_digPlaced_same (opTag := opTag) (k0 := k0) (e := e) body c0)
      exact sheetAt_of_ss rfl n
    · refine .trans ?_ (sheetAt_digPlaced_other (opTag := opTag) (k0 := k0) (e := e) other c0)
      exact sheetAt_of_ss rfl m
    · exact digPlaced_cc (opTag := opTag) (n := n) (k0 := k0) (e := e) c0
    · refine .trans ?_ act
      exact activeEntry_of_pat rfl
    · refine .trans ?_ ((others j other).trans (entryAt_makeActive_was_active (by exact one) other was))
      exact entryAt_of_pat rfl j
    · refine .trans ?_ ((others j other).trans (entryAt_makeActive_other other was))
      exact entryAt_of_pat rfl j
    · show some (newRun n k0 c0 h l g) = _
      simp only [newRun, stagedAfter_eq, currentOf, Int.zero_add]
      rfl
    · refine (congrArg (fun p : Clp => p.flags.getLsbD 2) (if_neg marks)).trans ?_
      exact flag_fired (.marker ..) _ _ _
    · rw [start] at same
      refine .trans ?_ same
      exact entryAt_of_pat rfl e
    · rw [start] at same
      refine .trans ?_ same
      exact entryAt_of_pat rfl e
  · intro tag opTag k0 c0 n e h l why s empty idle first inside body role fails
    have body' : segmentsOf (sheetAt (digBegun opTag n k0 e c0 s) n).body = l := by rw [body_digBegun, body]; rfl
    have failed : digCheck n k0 e c0 (digBegun opTag n k0 e c0 s) = some why := by
      rcases fails with ⟨rfl, short⟩ | ⟨rfl, long, other⟩ | ⟨rfl, long, standby, tie⟩ | ⟨rfl, long, role, past⟩
      · exact digCheck_short (by rw [body']; exact short)
      · exact digCheck_role (by rw [body']; exact long) other
      · exact digCheck_busy (by rw [body']; exact long) standby tie
      · rw [digCheck_last (s := digBegun opTag n k0 e c0 s) (by rw [body']; exact long) role, body']
        exact if_pos past
    have step := exec_enqueue_dig_failed (n := n) (e := e) (opTag := opTag) empty idle first inside (by rw [body]; rfl) failed
    have done := completed_of_single (s := digBegun opTag n k0 e c0 s) (op := justBegun (digOp opTag n k0 e c0) s) rfl
      .failed why
    refine ⟨_, step tag, queueDone_answer done.queueDone tag, ?_, ?_, ?_, ?_, ?_, ?_⟩
    · rw [answer_oq, formPermit_oq, done.oq]
      rfl
    · rw [answer_clp, formPermit_clp, done.clp, cyclesReported_of_dig rfl]
      rfl
    · rw [answer_cc, formPermit_cc, done.cc]
      rfl
    · rw [answer_pat, formPermit_pat, done.pat]
      rfl
    · rw [answer_te, formPermit_te, done.te]
      rfl
    · rw [answer_ss, formPermit_ss]
      exact ss_failed_dig why

end Sys2Proof.Proofs
end

section
/-! Operations that end (R149 to R152, R155, R156): a DWELL, a settled PLUNGE, a LIFT at the top, and SOFT_ABORT. -/

namespace Sys2Proof.Proofs

open Sys2Proof.Machine Sys2Proof.Safety Sys2Proof.Laws

variable {s t u : State} {op : Operation} {out : OpOutcome} {why : OpReason} {info : RunInfo} {q : QStrike} {l : LoopCtx}
  {b : Int} {r : Readings}

/-! ## The cycle count of an OP_DONE (R156) -/

theorem mayStand_iff (p : OpParams) : mayStand p = true ↔ kindOf p = .hold ∨ kindOf p = .dwell := by
  cases p <;> simp [mayStand, kindOf]

/-- OP_DONE gives the cycles of a HOLD or a DWELL that began one, and 0 for the other kinds (R156). -/
theorem cyclesReported_spec (hop : op.state = .executing info) (free : Nat) :
    (kindOf op.params = .hold ∨ kindOf op.params = .dwell → 0 < info.cycles → cyclesReported op free = info.cycles)
    ∧ (kindOf op.params ≠ .hold → kindOf op.params ≠ .dwell → cyclesReported op free = 0) := by
  refine ⟨fun stands begun => cyclesReported_of_cycles ((mayStand_iff _).mpr stands) hop begun free, fun hold dwell => ?_⟩
  refine if_neg fun stands => ?_
  exact ((mayStand_iff _).mp stands).elim hold dwell

/-- The only operation has ended, whatever a step did before without touching the port, the chainage or the planes. -/
theorem Completed.ended {before : State} (h : Completed op out why u t) (hop : op.state = .executing info)
    (clp : u.clp = before.clp) (clock : u.clock = before.clock) (acc : u.cc.acc = before.cc.acc) (pat : u.pat = before.pat) :
    Safety.queueDone (formPermit t)
    ∧ (∃ cycles, t.clp = fireIn (.opDone op.tag (kindOf op.params) out why cycles 0) before.clock (chainage before) before.clp
        ∧ (kindOf op.params = .hold ∨ kindOf op.params = .dwell → 0 < info.cycles → cycles = info.cycles)
        ∧ (kindOf op.params ≠ .hold → kindOf op.params ≠ .dwell → cycles = 0))
    ∧ t.cc.acc = before.cc.acc ∧ t.pat = before.pat := by
  have place : chainage u = chainage before := congrArg (· / 1000) acc
  refine ⟨h.queueDone, ⟨_, ?_, cyclesReported_spec hop u.free⟩, ?_, h.pat.trans pat⟩
  · rw [h.clp, clp, clock, place]
  · rw [h.cc]; exact acc

/-! ## A DWELL (R149, R151) -/

theorem exec_dwellTimerExpiry {due : Time} (h : s.oq.dwellTimer = some due) :
    exec .dwellTimerExpiry s = .next (formPermit (endCycle .time s)) := by
  simp [exec, execDwellTimerExpiry, h]

/-- A standing DWELL begins its next cycle (R149). -/
theorem newCycle_dwell {rest : List Operation} {time : Nat} (hops : s.oq.ops = op :: rest)
    (hop : op.state = .executing info) (hp : op.params = .dwell time) :
    newCycle op.params s = { s with oq := { s.oq with
      ops := { op with state := .executing { info with cycles := countOne info.cycles, cycleTime := s.clock } } :: rest
      dwellTimer := some (s.clock + BitVec.ofNat 32 time) } } := by
  rw [show newCycle op.params s = newCycle (.dwell time) s from congrArg (newCycle · s) hp]
  unfold newCycle
  dsimp only
  rw [modifyHead_eq hops hop]
  rfl

/-! ## A PLUNGE (R87) -/

theorem strikeWithTarget_settles (hl : s.gl.loop = some l) (plunge : l.kind = .plunge) (two : l.holdCount = 2)
    {depth target : Int} (hold : decided depth target l = .hold) (q : QStrike) (line : Option LinePart) :
    strikeWithTarget q depth target line l s = completeHead .done .settled (targetStep q depth target line l s) := by
  have settles : l.kind = .plunge ∧ 3 ≤ nextHoldCount l.kind (decided depth target l) l.holdCount := by
    rw [hold, plunge, two]
    exact ⟨rfl, Nat.le_refl 3⟩
  unfold strikeWithTarget
  dsimp only
  rw [if_pos settles, reachAfter_eq, modifyLoop_eq (l := l) (by exact hl)]
  unfold handOn
  dsimp only
  rw [reachClp_consts]
  rfl

/-- A decision HOLD wants no drive, and so meets no limit (R88 to R93). -/
theorem limitBy_of_hold {depth target : Int} (hold : decided depth target l = .hold) (q : QStrike) (s : State) :
    limitBy q depth target l s = .none := by
  have wanted : wantedBy depth target l s = 0 := by unfold wantedBy; rw [hold]; rfl
  have held : heldBy q depth target l s = 0 := by
    unfold heldBy slewedBy
    rw [wanted, slewLevel, if_pos rfl, ite_self]
  unfold limitBy
  rw [held]
  simp [limitOf]

/-- The third decision HOLD running settles a PLUNGE (R87). -/
theorem exec_strike_settles {due : Time} {target : Int} (h : loopHas q l s) (hb : q.beam = .inWindow b)
    (tracking : l.state = .tracking due) (unclamped : tiltUnclamped s) (plunge : l.kind = .plunge)
    (given : l.target = .given target) (two : l.holdCount = 2) (hold : decided (measuredDepth b s) target l = .hold) :
    exec .gradeLoopStrike s = .next (formPermit (completeHead .done .settled
      (targetStep q (measuredDepth b s) target none (tracked l (taken s)) (seen l (taken s))))) := by
  have hl : (taken s).gl.loop = some l := h.2.1
  have notUnlatched : (tracked l (taken s)).target ≠ .unlatched := by
    show l.target ≠ _
    rw [given]
    exact nofun
  have latched : latchTarget (measuredDepth b s) (fireTiltClamp .gradeLoop (seen l (taken s))) = seen l (taken s) := by
    rw [fireTiltClamp_unclamped (by exact unclamped), latchTarget_latched (l := tracked l (taken s)) rfl notUnlatched]
  have reached : strikeTarget q (tracked l (taken s)) (seen l (taken s)) = some (target, none) := by
    unfold strikeTarget
    dsimp only
    rw [given]
  rw [exec_strike_inWindow h hb, beamSeen_eq hl (.inl tracking),
    computeStrike_target (by exact latched) rfl reached,
    strikeWithTarget_settles (l := tracked l (taken s)) rfl plunge two (by exact hold)]
  rfl

/-! ## A LIFT (R150) -/

/-- A stroke sample above the bottom (R93 to R95). -/
theorem limitAtSample_above (above : s.clp.consts.strokeBottom < strokeSeen s) :
    limitAtSample s = clearReach (if s.clp.consts.strokeTop ≤ strokeSeen s ∧ 0 < s.gl.v then handOn 0 s else s) := by
  have notBottom : ¬ (strokeSeen s ≤ s.clp.consts.strokeBottom ∧ s.gl.v < 0) := fun h => Nat.not_lt.mpr h.1 above
  unfold limitAtSample limitOf
  dsimp only
  rw [if_pos above, if_neg notBottom]
  by_cases top : s.clp.consts.strokeTop ≤ strokeSeen s ∧ 0 < s.gl.v
  · rw [if_pos top, if_pos top]
  · rw [if_neg top, if_neg top]

/-- A stroke sample above the bottom changes the drive and REACH alone. -/
theorem limitAtSample_above_keeps (above : s.clp.consts.strokeBottom < strokeSeen s) :
    (limitAtSample s).oq.ops = s.oq.ops ∧ (limitAtSample s).clp = s.clp ∧ (limitAtSample s).cc = s.cc
      ∧ (limitAtSample s).pat = s.pat ∧ (limitAtSample s).clock = s.clock
      ∧ strokeSeen (limitAtSample s) = strokeSeen s := by
  rw [limitAtSample_above above]
  split
  · refine ⟨rfl, rfl, rfl, rfl, rfl, ?_⟩
    show strokeSeen (handOn 0 s) = _
    unfold strokeSeen
    rw [(handOn_os_keeps 0 s).1, handOn_sm]
    cases s.sm <;> rfl
  · exact ⟨rfl, rfl, rfl, rfl, rfl, rfl⟩

theorem lifting_of_single (hops : s.oq.ops = [op]) (hop : op.state = .executing info) (lift : op.params = .lift) :
    Machine.lifting s = true := by
  simp [Machine.lifting, executing, hops, hop, lift]

theorem inRange_of_no_fault {o : Os} (h : tickFaults r o = []) : strokeInRange (strokeReading r.stroke) = true := by
  unfold tickFaults at h
  obtain ⟨first, _⟩ := List.append_eq_nil_iff.mp h
  obtain ⟨range, _⟩ := List.append_eq_nil_iff.mp first
  by_contra out
  rw [if_neg out] at range
  cases range

/-- A sample tick that declares nothing (R164). -/
theorem sampleOutputs_sound (faults : tickFaults r s.os = []) (inRange : strokeInRange (strokeReading r.stroke) = true) :
    sampleOutputs r s = formPermit (if strokeActs (takeSamples r s) then handStroke (takeSamples r s) else takeSamples r s) := by
  unfold sampleOutputs tickItems strokeHanded
  dsimp only
  rw [faults, inRange, Bool.or_true, Bool.true_and, List.append_nil]
  split <;> rfl

theorem handStroke_of_lift (lift : Machine.lifting (limitAtSample s) = true)
    (top : (limitAtSample s).clp.consts.strokeTop ≤ strokeSeen (limitAtSample s)) :
    handStroke s = completeHead .done .top (limitAtSample s) := by
  unfold handStroke
  dsimp only
  rw [lift, decide_eq_true top]
  rfl

/-- A LIFT whose stroke sample reaches the top is done (R150). -/
theorem exec_sampleTick_lift (hops : s.oq.ops = [op]) (hop : op.state = .executing info) (lift : op.params = .lift)
    (real : s.sm = none) (apart : s.clp.consts.strokeBottom < s.clp.consts.strokeTop) (faults : tickFaults r s.os = [])
    (top : (s.clp.consts.strokeTop : Int) ≤ strokeReading r.stroke) :
    exec (.sampleTick r) s = .next (formPermit (completeHead .done .top (limitAtSample (takeSamples r s))))
    ∧ s.clp.consts.strokeBottom < strokeSeen (takeSamples r s) := by
  have inRange := inRange_of_no_fault faults
  have sampled : strokeSeen (takeSamples r s) = (strokeReading r.stroke).toNat := by
    show strokeSeen { s with os := sampledOutputs r s.os, sm := s.sm.map fun m => { m with handed := m.stroke } } = _
    rw [real]
    exact if_pos inRange
  have atTop : s.clp.consts.strokeTop ≤ strokeSeen (takeSamples r s) := by rw [sampled]; omega
  have above : s.clp.consts.strokeBottom < strokeSeen (takeSamples r s) := by omega
  obtain ⟨ops, clp, _, _, _, seen⟩ := limitAtSample_above_keeps (s := takeSamples r s) above
  have acts : strokeActs (takeSamples r s) = true := by
    unfold strokeActs
    rw [lifting_of_single (s := takeSamples r s) hops hop lift, Bool.true_and, Bool.or_eq_true]
    exact .inr (decide_eq_true atTop)
  refine ⟨?_, above⟩
  show Host.Outcome.next (sampleOutputs r s) = _
  rw [sampleOutputs_sound faults inRange, if_pos acts,
    handStroke_of_lift (lifting_of_single (ops.trans hops) hop lift) (by rw [clp, seen]; exact atTop)]

/-! ## SOFT_ABORT (R152) -/

theorem executing_of_single {rest : List Operation} (hops : s.oq.ops = op :: rest) (hop : op.state = .executing info) :
    executing s = some (op, info) := by
  unfold executing
  simp only [hops, hop]

theorem exec_softAbort (h : executing s = some (op, info)) (tag : Nat) :
    exec (.softAbort tag) s = .next (answer .softAbort tag .ok .none (formPermit (softAbort op.params s))) := by
  show execSoftAbort tag s = _
  unfold execSoftAbort
  rw [h]

theorem softAbort_of_not_dig (h : kindOf op.params ≠ .dig) (s : State) :
    softAbort op.params s = completeHead .aborted .softAbort s := by
  cases hp : op.params with
  | dig n k0 e c0 => exact absurd (by rw [hp]; rfl) h
  | _ => rfl

/-- An answer writes the reply, the hold of the receiver and the requests in hand alone. -/
theorem answer_clp_but_reply (req : Request) (tag : Nat) (result : ResultCode) (c : Contents) (port : portKept s u) :
    { (answer req tag result c (formPermit u)).clp with
      reply := s.clp.reply, held := s.clp.held, rx := s.clp.rx, inHand := s.clp.inHand } = u.clp := by
  obtain ⟨_, rx, held, inHand, reply, _⟩ := port
  rw [answer_clp, formPermit_clp, ← rx, ← held, ← inHand, ← reply]

/-- Settles O38. -/
theorem operationsComplete : Obligations.OperationsComplete := by
  intro op info s hop firing ended
  refine ⟨fun time due hops hp ht single => ?_, fun time due hops hp ht standing => ?_,
    fun time due waiting next hops hp ht hnext hwait => ?_,
    fun q l b due target hops h hb tracking unclamped plunge given two hold => ?_,
    fun r hops lift real laws faults top => ?_, fun tag hops kind => ?_⟩
  · refine ⟨_, exec_dwellTimerExpiry ht, ?_⟩
    rw [endCycle_of_cons hops, if_neg (by rw [single]; exact nofun)]
    exact (completed_of_single hops .done .time).ended hop rfl rfl rfl rfl
  · rw [exec_dwellTimerExpiry ht, endCycle_of_cons hops, if_pos (by rw [standing]; rfl), newCycle_dwell hops hop hp]
  · obtain ⟨hoq, hgl, _, _, _, _, _, _, _, _, hclock, _, hclp⟩ := leaveQueue_cons hops .done .time
    have completes : completeHead .done .time s = _ :=
      startHead_dwell (s := leaveQueue .done .time s) (by rw [hoq]) hnext _
    refine ⟨_, exec_dwellTimerExpiry ht, ?_⟩
    rw [endCycle_of_cons hops, if_neg (by simp), completes]
    refine ⟨⟨_, hclp, cyclesReported_spec hop s.free⟩, ?_, ?_, ?_⟩
    · show [{ waiting with state := _ }] = _
      rw [hclock]
    · show some ((leaveQueue .done .time s).clock + _) = _
      rw [hclock]
    · show (leaveQueue .done .time s).gl.v = 0
      rw [hgl]
  · refine ⟨_, exec_strike_settles h hb tracking unclamped plunge given two hold, ?_⟩
    have limit := limitBy_of_hold (l := tracked l (taken s)) hold q (seen l (taken s))
    refine (completed_of_single (s := targetStep q _ target none (tracked l (taken s)) (seen l (taken s))) hops
      .done .settled).ended hop ?_ rfl rfl rfl
    exact reachClp_of_ne (by rw [limit]; exact nofun) _ _
  · obtain ⟨_, _, apart⟩ := laws
    obtain ⟨step, above⟩ := exec_sampleTick_lift hops hop lift real (by omega) faults top
    obtain ⟨ops, clp, cc, pat, clock, _⟩ := limitAtSample_above_keeps (s := takeSamples r s) above
    exact ⟨_, step, (completed_of_single (ops.trans hops) .done .top).ended hop clp clock (by rw [cc]; rfl) pat⟩
  · have done := completed_of_single hops .aborted .softAbort
    obtain ⟨emptied, fired, acc, pat⟩ := done.ended hop rfl rfl rfl rfl
    have step := exec_softAbort (executing_of_single hops hop) tag
    rw [softAbort_of_not_dig kind] at step
    refine ⟨_, step, queueDone_answer emptied tag, ?_, ?_, ?_, by rw [answer_clp]; rfl⟩
    · rw [answer_cc, formPermit_cc, acc]
    · rw [answer_pat, formPermit_pat, pat]
    · rw [answer_clp_but_reply .softAbort tag .ok .none done.portKept]
      exact fired

end Sys2Proof.Proofs
end

section
/-! RESUME and SOFT_ABORT of a DIG (R61, R66, R114, R152, R154). -/

namespace Sys2Proof.Proofs

open Sys2Proof.Machine Sys2Proof.Safety Sys2Proof.Laws

variable {s t u : State} {r : RunCtx} {st : StagedSegment} {g : Segment}

/-! ## RESUME -/

theorem clearWindow_map (s : State) :
    clearWindow s = { s with gl := { s.gl with loop := s.gl.loop.map (cleared s.clp.consts) } } := by
  cases hl : s.gl.loop with
  | none =>
    rw [clearWindow_none hl]
    show s = { s with gl := { s.gl with loop := none } }
    rw [← hl]
  | some l => exact clearWindow_eq hl

/-- An exchange, with a loop in the run or without one (R58, R62, R85). -/
theorem exchange_map (hr : s.lt = some r) (hst : r.staged = some st)
    (hg : (segmentsOf (sheetAt s r.sheet).body)[st.index]? = some g) :
    exchange s = { s with
      lt := some (exchanged r st g (segmentsOf (sheetAt s r.sheet).body))
      gl := { s.gl with loop := s.gl.loop.map (cleared s.clp.consts) }
      clp := exchangeClp st g s } := by
  rw [exchange_eq hr hst hg, clearWindow_map, fireMarker_eq]
  rfl

/-- The flags an exchange leaves set: SEGMENT_CHANGE, and MARKER for a segment that carries one. -/
theorem exchangeClp_flags (st : StagedSegment) (g : Segment) (s : State) :
    (exchangeClp st g s).flags.getLsbD 0 = true ∧ (g.marker ≠ .none → (exchangeClp st g s).flags.getLsbD 2 = true) := by
  have changed := flag_fired (.segmentChange st.index st.cs st.invert) s.clock (chainage s) s.clp
  unfold exchangeClp
  dsimp only
  split
  next none => exact ⟨changed, fun some => absurd none some⟩
  next => exact ⟨flag_kept changed _ _ _, fun _ => flag_fired (.marker ..) _ _ _⟩

/-- The part once a held segment end is left and its exchange made (R61). -/
abbrev resumed (r : RunCtx) (st : StagedSegment) (g : Segment) (s : State) : State :=
  { s with
    lt := some (exchanged { r with frozen := none, phase := .running } st g (segmentsOf (sheetAt s r.sheet).body))
    gl := { s.gl with loop := s.gl.loop.map (cleared s.clp.consts) }
    oq := { s.oq with pause := { s.oq.pause with segmentHold := false } }
    clp := exchangeClp st g (releaseHold r s) }

theorem resumeExchange_eq {high : Nat} (hr : s.lt = some r) (hst : r.staged = some st)
    (hg : (segmentsOf (sheetAt s r.sheet).body)[st.index]? = some g) (hc : s.cc.chw = some high)
    (short : high < st.cs + g.length) : resumeExchange s = resumed r st g s := by
  have made := exchange_map (s := releaseHold r s) (r := { r with frozen := none, phase := .running }) rfl hst hg
  unfold resumeExchange
  rw [hr]
  dsimp only
  rw [made]
  exact testBoundary_short rfl hc short

theorem exchangePending_iff (s : State) : exchangePending s = true ↔ runPhase s = some .segmentHold := by
  unfold exchangePending runPhase
  cases s.lt <;> simp

theorem not_pending_of_free (h : runPhase s ≠ some .segmentHold) : exchangePending s = false := by
  rw [Bool.eq_false_iff, Ne, exchangePending_iff]
  exact h

theorem exec_resume (h : (exchangePending s || s.oq.pause.resumeWait) = true) (tag : Nat) :
    exec (.resume tag) s
      = .next (answer .resume tag .ok (.resumed (exchangePending s) s.oq.pause.resumeWait) (resumeAll s)) := if_pos h

/-- RESUME_WAIT goes, where it stands. -/
theorem removeResumeWait_where (w : Bool) (h : u.oq.pause.resumeWait = w) :
    (if w then removeResumeWait u else u)
      = { u with oq := { u.oq with pause := { u.oq.pause with resumeWait := false } } } := by
  cases w with
  | true => rfl
  | false =>
    show u = { u with oq := { u.oq with pause := { u.oq.pause with resumeWait := false } } }
    rw [← h]

theorem resumeAll_of_pending (pending : exchangePending s = true) (h : resumeExchange s = u)
    (kept : u.oq.pause.resumeWait = s.oq.pause.resumeWait) :
    resumeAll s = formPermit { u with oq := { u.oq with pause := { u.oq.pause with resumeWait := false } } } := by
  unfold resumeAll
  dsimp only
  rw [if_pos pending, h, removeResumeWait_where _ kept]

theorem resumeAll_of_not_pending (pending : exchangePending s = false) :
    resumeAll s = formPermit { s with oq := { s.oq with pause := { s.oq.pause with resumeWait := false } } } := by
  unfold resumeAll
  dsimp only
  rw [if_neg (c := exchangePending s = true) (by rw [pending]; exact nofun), removeResumeWait_where _ rfl]

/-! ## SOFT_ABORT of a running DIG -/

theorem softAbortDig_running (hr : s.lt = some r) (running : r.phase = .running) (moving : s.cc.still = .moving) :
    softAbortDig s = { s with
      te := { s.te with bench := none }
      lt := some { r with softAborted := true, phase := .stopping, unbenched := false
                          frozen := some (min (chainage s) (r.cur.cs + r.cur.length)) }
      oq := { s.oq with pause := { s.oq.pause with segmentHold := false, bench := false, stopping := true } } } := by
  have stops : stopsAtSoftAbort r.phase = true := by rw [running]; rfl
  have stopped : softAbortRun r s = { s with
      te := { s.te with bench := none }
      lt := some { r with softAborted := true, phase := .stopping, unbenched := false
                          frozen := some (min (chainage s) (r.cur.cs + r.cur.length)) }
      oq := { s.oq with pause := { s.oq.pause with segmentHold := false, bench := false, stopping := true } } } := by
    unfold softAbortRun frozenAtSoftAbort
    rw [if_pos stops, running]
    rfl
  unfold softAbortDig
  rw [hr]
  dsimp only
  rw [if_pos stops, stopped]
  exact if_neg (by show s.cc.still ≠ _; rw [moving]; exact nofun)

theorem exec_softAbort_refused (h : executing s = none) (tag : Nat) :
    exec (.softAbort tag) s = .next (refuse .softAbort tag .state s) := by
  show execSoftAbort tag s = _
  unfold execSoftAbort
  rw [h]

theorem exec_softAbort_dig (h : executingKind s = some .dig) (tag : Nat) :
    exec (.softAbort tag) s = .next (answer .softAbort tag .ok .none (formPermit (softAbortDig s))) := by
  unfold executingKind at h
  obtain ⟨⟨op, info⟩, executes, kind⟩ := Option.map_eq_some_iff.mp h
  rw [exec_softAbort executes]
  dsimp only at kind
  cases hp : op.params with
  | dig n k0 e c0 => rfl
  | _ => rw [hp] at kind; cases kind

/-- Settles O39. -/
theorem resumeAndSoftAbortOfADig : Obligations.ResumeAndSoftAbortOfADig := by
  intro tag s
  refine ⟨fun r st g high hr held hst hg hc short => ?_, fun free waits => ?_, fun free clear => ?_,
    fun r kind hr running moving => ?_, fun idle => exec_softAbort_refused (Option.map_eq_none_iff.mp idle) tag⟩
  · have pending : exchangePending s = true := by
      rw [exchangePending_iff, runPhase, hr]
      exact congrArg some held
    obtain ⟨changed, marked⟩ := exchangeClp_flags st g (releaseHold r s)
    refine ⟨_, exec_resume (by rw [pending]; rfl) tag, ?_⟩
    rw [resumeAll_of_pending pending (resumeExchange_eq hr hst hg hc short) rfl, pending]
    exact ⟨rfl, rfl, rfl, rfl, changed, marked, rfl, rfl, rfl, rfl, rfl⟩
  · have pending := not_pending_of_free free
    rw [exec_resume (by rw [pending, waits]; rfl) tag, resumeAll_of_not_pending pending, pending, waits]
  · show execResume tag s = _
    unfold execResume
    rw [not_pending_of_free free, clear]
    rfl
  · refine ⟨_, exec_softAbort_dig kind tag, ?_⟩
    rw [softAbortDig_running hr running moving]
    refine ⟨rfl, rfl, rfl, rfl, permitHolds_of_pause ?_, rfl, rfl, rfl, rfl⟩
    simp [pauseEmpty]

end Sys2Proof.Proofs
end

section
/-! Emptying the queue, STOP and RESTART (R153, R160, R193). -/

namespace Sys2Proof.Proofs

open Sys2Proof.Machine Sys2Proof.Safety Sys2Proof.Laws

variable {s t u v : State} {op : Operation} {out : OpOutcome} {why : OpReason}

/-! ## What operations that leave the queue do not touch (R155) -/

/-- The blocks that no operation leaving the queue touches. -/
structure QueueLeft (s t : State) : Prop where
  seq : t.oq.seq = s.oq.seq := by rfl
  tie : t.te.tie = s.te.tie := by rfl
  cc : t.cc = { s.cc with chw := t.cc.chw } := by rfl
  setAside : t.sm.map (·.setAside) = s.sm.map (·.setAside) := by rfl
  pat : t.pat = s.pat := by rfl
  mlr : t.mlr = s.mlr := by rfl
  sq : t.sq = s.sq := by rfl
  body : ∀ n, (sheetAt t n).body = (sheetAt s n).body := by intro; rfl
  outputs : t.os.faulted = s.os.faulted ∧ t.os.record = s.os.record := by exact ⟨rfl, rfl⟩
  flags : ∀ n, s.clp.flags.getLsbD n = true → t.clp.flags.getLsbD n = true := by exact fun _ h => h
  port : portKept s t := by exact portKept_of_eq rfl

theorem QueueLeft.trans (h : QueueLeft s t) (h' : QueueLeft t u) : QueueLeft s u where
  seq := h'.seq.trans h.seq
  tie := h'.tie.trans h.tie
  cc := by rw [h'.cc, h.cc]
  setAside := h'.setAside.trans h.setAside
  pat := h'.pat.trans h.pat
  mlr := h'.mlr.trans h.mlr
  sq := h'.sq.trans h.sq
  body n := (h'.body n).trans (h.body n)
  outputs := ⟨h'.outputs.1.trans h.outputs.1, h'.outputs.2.trans h.outputs.2⟩
  flags n set := h'.flags n (h.flags n set)
  port := portKept_trans h.port h'.port

theorem queueLeft_leaveQueue (out : OpOutcome) (why : OpReason) (s : State) : QueueLeft s (leaveQueue out why s) := by
  cases hops : s.oq.ops with
  | nil => rw [leaveQueue_nil hops]; exact {}
  | cons op rest =>
    obtain ⟨hoq, _, _, hte, hcc, hos, hsm, hpat, hmlr, hsq, _, _, hclp⟩ := leaveQueue_cons hops out why
    obtain ⟨_, _, faulted, record, _⟩ := handOn_os_keeps 0 s
    exact {
      seq := by rw [hoq]
      tie := by rw [hte]
      cc := by rw [hcc]
      setAside := by rw [hsm, Option.map_map]; rfl
      pat := hpat
      mlr := hmlr
      sq := hsq
      body := leaveQueue_body hops out why
      outputs := by rw [hos]; exact ⟨faulted, record⟩
      flags := fun n set => by rw [hclp]; exact flag_kept set _ _ _
      port := portKept_fireIn hclp (portKept_of_eq rfl) }

theorem queueLeft_flushWaiting (why : OpReason) : ∀ (n : Nat) (s : State), QueueLeft s (flushWaiting why n s)
  | 0, _ => {}
  | n + 1, s => (queueLeft_leaveQueue .flushed why s).trans (queueLeft_flushWaiting why n _)

theorem queueLeft_emptyQueue (out : OpOutcome) (why : OpReason) (s : State) : QueueLeft s (emptyQueue out why s) := by
  unfold emptyQueue
  dsimp only
  split
  · exact (queueLeft_leaveQueue out why s).trans (queueLeft_flushWaiting why _ _)
  · exact queueLeft_flushWaiting why _ _

/-! ## What they leave behind (R155) -/

/-- Nothing is held for an operation any more, and an OP_DONE has fired. -/
abbrev heldForNone (t : State) : Prop :=
  t.oq.pause = .none ∧ t.oq.dwellTimer = none ∧ t.gl = { v := 0, loop := none } ∧ t.lt = none ∧ t.te.bench = none
    ∧ t.cc.chw = none ∧ t.os.raiseDuty = 0 ∧ t.os.lowerDuty = 0 ∧ t.clp.flags.getLsbD 11 = true

theorem heldForNone_leaveQueue_cons {rest : List Operation} (hops : s.oq.ops = op :: rest) (out : OpOutcome) (why : OpReason) :
    heldForNone (leaveQueue out why s) := by
  obtain ⟨hoq, hgl, hlt, hte, hcc, hos, _, _, _, _, _, _, hclp⟩ := leaveQueue_cons hops out why
  obtain ⟨raised, lowered⟩ := handOn_zero_duties s
  unfold heldForNone
  rw [hoq, hgl, hlt, hte, hcc, hos, hclp]
  exact ⟨rfl, rfl, rfl, rfl, rfl, rfl, raised, lowered, flag_opDone _ _ _ _ _ _ _ _ _⟩

theorem heldForNone_flushWaiting (why : OpReason) :
    ∀ (n : Nat) (s : State), heldForNone s → heldForNone (flushWaiting why n s)
  | 0, _, h => h
  | n + 1, s, h => by
    refine heldForNone_flushWaiting why n (leaveQueue .flushed why s) ?_
    cases hops : s.oq.ops with
    | nil => rw [leaveQueue_nil hops]; exact h
    | cons op rest => exact heldForNone_leaveQueue_cons hops _ _

theorem heldForNone_emptyQueue (held : s.oq.ops ≠ []) (out : OpOutcome) (why : OpReason) : heldForNone (emptyQueue out why s) := by
  obtain ⟨op, rest, hops⟩ := List.exists_cons_of_ne_nil held
  unfold emptyQueue
  dsimp only
  split
  · exact heldForNone_flushWaiting why _ _ (heldForNone_leaveQueue_cons hops out why)
  · rw [hops]
    exact heldForNone_flushWaiting why rest.length _ (heldForNone_leaveQueue_cons hops .flushed why)

/-- The executing operation alone: it leaves, and nothing is flushed. -/
theorem emptyQueue_of_single {info : RunInfo} (hops : s.oq.ops = [op]) (hop : op.state = .executing info) (out : OpOutcome)
    (why : OpReason) : emptyQueue out why s = leaveQueue out why s := by
  unfold emptyQueue
  dsimp only
  rw [if_pos (by rw [executing_of_single hops hop]; rfl), (leaveQueue_cons hops out why).1]
  rfl

/-! ## The queue emptied and the tie ended (R153, R160) -/

/-- The part once STOP or RESTART has emptied the queue and ended the tie. -/
abbrev halted (why : OpReason) (s : State) : State := endTie .stopped none (idleSequencer (emptyQueue .aborted why s))

/-- What STOP and RESTART share. -/
structure Halted (s v : State) : Prop where
  ops : v.oq.ops = []
  tie : v.te.tie = none
  seq : v.oq.seq = if s.oq.seq = .faulted then .faulted else .idle
  left : s.oq.ops ≠ [] → heldForNone v
  last : ∀ r, s.te.tie = some r → v.te.last = some (.failed r.candidate .stopped r.pairs.length none)
  candidate : ∀ r, s.te.tie = some r → entryAt v r.candidate = { entryAt s r.candidate with role := .standby, tie := none }
  others : ∀ j, s.te.tie.map (·.candidate) ≠ some j → entryAt v j = entryAt s j
  cc : v.cc = { s.cc with chw := v.cc.chw }
  setAside : v.sm.map (·.setAside) = s.sm.map (·.setAside)
  mlr : v.mlr = s.mlr
  sq : v.sq = s.sq
  body : ∀ n, (sheetAt v n).body = (sheetAt s n).body
  port : portKept s v

theorem heldForNone_endTie (h : heldForNone u) (why : TieReason) (spread : Option Int) : heldForNone (endTie why spread u) := by
  cases hr : u.te.tie with
  | none => rw [endTie_of_none hr]; exact h
  | some r =>
    obtain ⟨pause, dwell, gl, lt, bench, chw, raised, lowered, flag⟩ := h
    rw [endTie_of_some hr]
    exact ⟨pause, dwell, gl, lt, bench, chw, raised, lowered, flag_kept flag _ _ _⟩

theorem portKept_endTie (why : TieReason) (spread : Option Int) (u : State) : portKept u (endTie why spread u) := by
  cases hr : u.te.tie with
  | none => rw [endTie_of_none hr]; exact portKept_of_eq rfl
  | some r => rw [endTie_of_some hr]; exact portKept_fireIn rfl (portKept_of_eq rfl)

theorem halted_spec (why : OpReason) (s : State) : Halted s (halted why s) := by
  have ops : (idleSequencer (emptyQueue .aborted why s)).oq.ops = [] := emptyQueue_ops .aborted why s
  have gone := queueLeft_emptyQueue .aborted why s
  have none (held : s.oq.ops ≠ []) : heldForNone (idleSequencer (emptyQueue .aborted why s)) :=
    heldForNone_emptyQueue held .aborted why
  have seq : (idleSequencer (emptyQueue .aborted why s)).oq.seq = if s.oq.seq = .faulted then .faulted else .idle := by
    show (if (emptyQueue .aborted why s).oq.seq = .faulted then _ else _) = _
    rw [gone.seq]
  unfold halted
  have hte : (idleSequencer (emptyQueue .aborted why s)).te.tie = s.te.tie := gone.tie
  have keeps := endTie_keeps .stopped Option.none (idleSequencer (emptyQueue .aborted why s))
  exact {
    ops := by rw [endTie_oq]; exact ops
    tie := endTie_tie _ _ _
    seq := by rw [endTie_oq]; exact seq
    left := fun held => heldForNone_endTie (none held) _ _
    last := fun r hr => by rw [endTie_of_some (hte.trans hr)]
    candidate := fun r hr => by
      rw [endTie_of_some (hte.trans hr), ← entryAt_of_pat (u := s) gone.pat r.candidate]
      exact entryAt_modifyEntry_same r.candidate (fun p => { p with role := .standby, tie := Option.none }) _
    others := fun j other => by
      rw [← entryAt_of_pat gone.pat j]
      cases hr : s.te.tie with
      | none => rw [endTie_of_none (hte.trans hr)]; rfl
      | some r =>
        rw [endTie_of_some (hte.trans hr)]
        exact entryAt_modifyEntry_of_ne (fun h => other (by rw [hr, h]; rfl))
          (fun p => { p with role := .standby, tie := Option.none }) _
    cc := by rw [keeps]; exact gone.cc
    setAside := by rw [keeps]; exact gone.setAside
    mlr := by rw [keeps]; exact gone.mlr
    sq := by rw [keeps]; exact gone.sq
    body := fun n => (congrArg Sheet.body (sheetAt_of_ss (endTie_ss _ _ _) n)).trans (gone.body n)
    port := portKept_trans gone.port (portKept_endTie .stopped Option.none (idleSequencer (emptyQueue .aborted why s))) }

/-- The end of the only operation, with no tie in flight: its OP_DONE alone has fired (R155, R156). -/
theorem halted_clp {info : RunInfo} (hops : s.oq.ops = [op]) (hop : op.state = .executing info) (tie : s.te.tie = none)
    (why : OpReason) : (halted why s).clp
      = fireIn (.opDone op.tag (kindOf op.params) .aborted why (cyclesReported op s.free) 0) s.clock (chainage s) s.clp := by
  obtain ⟨_, _, _, hte, _, _, _, _, _, _, _, _, hclp⟩ := leaveQueue_cons hops .aborted why
  unfold halted
  rw [emptyQueue_of_single hops hop, endTie_of_none (by show (leaveQueue .aborted why s).te.tie = none; rw [hte]; exact tie)]
  exact hclp

/-- With an empty queue the permit is withdrawn, whatever else stands (R169). -/
theorem permit_of_nil (h : v.oq.ops = []) : (formPermit v).os.permit = false ∧ (formPermit v).os.pin = false := by
  have held : permitHolds v = false := permitHolds_of_nil h
  refine ⟨held, ?_⟩
  show (permitHolds v && v.sm.isNone) = false
  rw [held]
  rfl

theorem queueEmptied_of_heldForNone (ops : v.oq.ops = []) (h : heldForNone v) : queueEmptied (formPermit v) := by
  obtain ⟨permit, pin⟩ := permit_of_nil ops
  obtain ⟨pause, dwell, gl, lt, bench, chw, raised, lowered, _⟩ := h
  exact ⟨ops, pause, congrArg Gl.v gl, congrArg Gl.loop gl, lt, chw, bench, dwell, raised, lowered, permit, pin⟩

/-! ## STOP and RESTART -/

theorem exec_stop (broadcast : Bool) (tag : Nat) (s : State) :
    exec (.stop broadcast tag) s = .next (if broadcast then takeInHand true 51 tag (formPermit (halted .stop s))
      else answer .stop tag .ok .none (formPermit (halted .stop s))) := by
  cases broadcast <;> rfl

/-- The part once RESTART has left the shadow run (R181, R193). -/
theorem leaveShadow_spec (s : State) :
    (∀ m, s.sm = some m → (leaveShadow s).cc.acc = m.setAside ∧ (leaveShadow s).cc.source = .wheel)
    ∧ (s.sm = none → (leaveShadow s).cc = s.cc) ∧ (leaveShadow s).cc.chw = s.cc.chw := by
  unfold leaveShadow
  cases hm : s.sm with
  | none => exact ⟨nofun, fun _ => rfl, rfl⟩
  | some m => exact ⟨fun m' h => by cases h; exact ⟨rfl, rfl⟩, nofun, rfl⟩

/-- The part as RESTART leaves it, but for the permit and the reply. -/
abbrev restarted (v : State) : State := restPort (restPlanes { v with cc := (leaveShadow v).cc, sm := none })

theorem exec_restart (tag : Nat) (s : State) :
    exec (.restart tag) s = .next (answer .restart tag .ok .none (formPermit (restarted (halted .restart s)))) := by
  show Host.Outcome.next (answer .restart tag .ok .none (formPermit (restPort (restPlanes (leaveShadow (halted .restart s)))))) = _
  rw [leaveShadow_keeps]

/-- The candidate of the tie in flight is an entry in use (R18). -/
theorem restEntry_of_standby {e : PlaneEntry} (used : e.role ≠ .empty) :
    restEntry { e with role := .standby, tie := none } = restEntry e := by
  unfold restEntry
  rw [if_neg used]
  rfl

/-- Settles O40. -/
theorem stopAndRestart : Obligations.StopAndRestart := by
  intro tag s
  refine ⟨fun broadcast => ⟨_, exec_stop broadcast tag s, ?_⟩, _, exec_restart tag s, ?_⟩
  · have h := halted_spec .stop s
    have clp (op : Operation) (info : RunInfo) (hops : s.oq.ops = [op]) (hop : op.state = .executing info)
        (tie : s.te.tie = none) := halted_clp hops hop tie .stop
    generalize halted .stop s = v at h clp
    obtain ⟨permit, pin⟩ := permit_of_nil h.ops
    have emptied (held : s.oq.ops ≠ []) : queueDone (formPermit v) :=
      have ⟨_, _, _, _, _, _, _, _, flag⟩ := h.left held
      ⟨queueEmptied_of_heldForNone h.ops (h.left held), flag⟩
    have acc : v.cc.acc = s.cc.acc := by rw [h.cc]
    obtain ⟨_, _, _, _, reply, _⟩ := h.port
    cases broadcast with
    | false =>
      exact ⟨h.ops, h.tie, permit, pin, h.seq, emptied,
        fun op info hops hop tie => ⟨cyclesReported op s.free, by rw [← clp op info hops hop tie]; rfl⟩,
        fun r hr => ⟨h.last r hr, h.candidate r hr⟩, h.others, h.body, acc, h.mlr, h.sq, rfl⟩
    | true =>
      exact ⟨h.ops, h.tie, permit, pin, h.seq, emptied,
        fun op info hops hop tie => ⟨cyclesReported op s.free, by rw [← clp op info hops hop tie]; rfl⟩,
        fun r hr => ⟨h.last r hr, h.candidate r hr⟩, h.others, h.body, acc, h.mlr, h.sq, reply⟩
  · have h := halted_spec .restart s
    generalize halted .restart s = v at h
    obtain ⟨left, real, chw⟩ := leaveShadow_spec v
    obtain ⟨permit, pin⟩ := permit_of_nil (v := restarted v) h.ops
    obtain ⟨address, _, _, _, _, enables, consts⟩ := h.port
    have entries (i : Fin 8) : entryAt (restarted v) i = restEntry (entryAt v i) :=
      entryAt_restPlanes { v with cc := (leaveShadow v).cc, sm := none } i
    refine ⟨rfl, h.ops, h.tie, permit, pin, rfl, fun held => ?_, h.last, h.seq, fun m hm => ?_, fun hm => ?_, fun planes i => ?_, ?_, ?_,
      h.body, rfl, rfl, enables, consts, address⟩
    · obtain ⟨pause, dwell, gl, lt, bench, high, raised, lowered, _⟩ := h.left held
      exact ⟨h.ops, pause, congrArg Gl.v gl, congrArg Gl.loop gl, lt, chw.trans high, bench, dwell, raised, lowered, permit, pin⟩
    · have aside := h.setAside
      rw [hm] at aside
      obtain ⟨m', hm', same⟩ := Option.map_eq_some_iff.mp aside
      obtain ⟨acc, source⟩ := left m' hm'
      exact ⟨acc.trans same, source⟩
    · have aside := h.setAside
      rw [hm] at aside
      show (leaveShadow v).cc.acc = _
      rw [real (Option.map_eq_none_iff.mp aside), h.cc]
    · refine (entries i).trans ?_
      by_cases named : s.te.tie.map (·.candidate) = some i
      · obtain ⟨r, hr, rfl⟩ := Option.map_eq_some_iff.mp named
        have candidate : (entryAt s r.candidate).role = .candidate := (planes r.candidate r.candidate).2.2.mpr named
        rw [h.candidate r hr, restEntry_of_standby (by rw [candidate]; exact nofun)]
        rfl
      · rw [h.others i named]
        rfl
    · show { v.mlr with rx := .hunting, slot := none } = _
      rw [h.mlr]
    · rfl

end Sys2Proof.Proofs
end

section
/-! The Output Stage: the sample tick, the entry into FAULTED and CLEAR_FAULT (R94, R95, R163 to R168). -/

namespace Sys2Proof.Proofs

open Sys2Proof.Machine Sys2Proof.Safety Sys2Proof.Laws

variable {s t u : State} {r : Readings} {c : CoilSense} {old : Coil} {duty : Nat}

/-! ## The coil checks (R163) -/

theorem checkResult_good (h : (duty = 0 ∧ c.path = true) ∨ (100 ≤ duty ∧ 50 ≤ c.current ∧ c.current ≤ 3000)) :
    checkResult duty c = .good := by
  unfold checkResult
  rcases h with ⟨idle, path⟩ | ⟨driven, least, most⟩
  · rw [if_pos idle, if_pos path]
  · rw [if_neg (by omega), if_neg (by omega), if_neg (by omega), if_neg (by omega)]

theorem checkResult_short (driven : 0 < duty) (high : 3000 < c.current) : checkResult duty c = .short := by
  unfold checkResult
  rw [if_neg (by omega), if_pos high]

theorem checkResult_broken (h : (duty = 0 ∧ c.path = false) ∨ (100 ≤ duty ∧ c.current < 50)) : checkResult duty c = .broken := by
  unfold checkResult
  rcases h with ⟨idle, path⟩ | ⟨driven, low⟩
  · rw [if_pos idle, if_neg (by rw [path]; exact nofun)]
  · rw [if_neg (by omega), if_neg (by omega), if_neg (by omega), if_pos low]

/-- A good reading declares nothing. -/
theorem coilFault_good (h : checkResult duty c = .good) (old : Coil) (broken short : FaultCause) :
    coilFault duty c old broken short = [] := by
  unfold coilFault
  dsimp only
  rw [h]
  rfl

/-- A driven coil above 3 A, and the third open reading running, declare a fault. -/
theorem coilFault_seen (h : (0 < duty ∧ 3000 < c.current)
      ∨ (old.openCount = 2 ∧ ((duty = 0 ∧ c.path = false) ∨ (100 ≤ duty ∧ c.current < 50)))) (broken short : FaultCause) :
    ∃ cause, .fault cause c.current ∈ coilFault duty c old broken short := by
  have declared : declares (checkResult duty c) old = true := by
    rcases h with ⟨driven, high⟩ | ⟨third, open_⟩
    · rw [checkResult_short driven high]
      exact Bool.or_true _
    · rw [checkResult_broken open_, declares, third]
      rfl
  refine ⟨coilCause (checkResult duty c) broken short, ?_⟩
  unfold coilFault
  dsimp only
  rw [if_pos declared]
  exact List.mem_singleton.mpr rfl

/-! ## A sample tick with sound wiring (R163 to R165) -/

section
variable (low : 0 ≤ strokeReading r.stroke) (high : strokeReading r.stroke ≤ 1000)
  (raise : checkResult s.os.raiseDuty r.raise = .good) (lower : checkResult s.os.lowerDuty r.lower = .good)
include low high raise lower

/-- The part once the samples of sound wiring are taken. -/
theorem takeSamples_sound : takeSamples r s = { s with
    os := { s.os with
      raise := { openCount := 0, latest := .good }, lower := { openCount := 0, latest := .good }
      stroke := (strokeReading r.stroke).toNat, strokeOk := true, tilt := tiltReading r.tilt
      health := { openRaise := false, openLower := false, strokeRange := false } }
    sm := s.sm.map fun m => { m with handed := m.stroke } } := by
  unfold takeSamples sampledOutputs
  dsimp only
  rw [raise, lower, (strokeInRange_iff _).mpr ⟨low, high⟩]
  rfl

theorem tickFaults_sound : tickFaults r s.os = [] := by
  unfold tickFaults
  dsimp only
  rw [coilFault_good raise, coilFault_good lower, if_pos ((strokeInRange_iff _).mpr ⟨low, high⟩)]
  rfl

end

theorem lifting_iff (s : State) : Machine.lifting s = true ↔ executingKind s = some .lift := by
  unfold Machine.lifting executingKind
  cases executing s with
  | none => exact ⟨nofun, nofun⟩
  | some x =>
    obtain ⟨⟨tag, params, standing, state⟩, info⟩ := x
    cases params <;> simp [kindOf]

theorem lifting_congr (h : t.oq.ops = s.oq.ops) : Machine.lifting t = Machine.lifting s := by
  rw [Bool.eq_iff_iff, lifting_iff, lifting_iff, executingKind_congr h]

/-- REACH, the drive and the port apart, a stroke sample leaves the part as it was. -/
theorem limitAtSample_keeps (s : State) : limitAtSample s = { s with
    gl := (limitAtSample s).gl, os := (limitAtSample s).os, sm := (limitAtSample s).sm, clp := (limitAtSample s).clp
    oq := { s.oq with pause := (limitAtSample s).oq.pause } } := by
  unfold limitAtSample
  dsimp only
  cases limitOf s.clp.consts (strokeSeen s) s.gl.v with
  | bottom =>
    dsimp only
    rw [setReach_eq]
    split <;> rfl
  | _ => split <;> rfl

/-- Without a LIFT the stroke handed on acts on the loop alone (R94, R95). -/
theorem handStroke_unlifted (h : Machine.lifting s = false) : handStroke s = limitAtSample s := by
  have same : Machine.lifting (limitAtSample s) = false := by
    rw [← h]
    exact lifting_congr (by rw [limitAtSample_keeps])
  unfold handStroke
  dsimp only
  rw [same]
  rfl

/-- A stroke that acts on nothing changes nothing. -/
theorem limitAtSample_inert (h : strokeActs s = false) : limitAtSample s = s := by
  unfold strokeActs at h
  obtain ⟨first, _⟩ := Bool.or_eq_false_iff.mp h
  obtain ⟨limit, reach⟩ := Bool.or_eq_false_iff.mp first
  have limit : limitOf s.clp.consts (strokeSeen s) s.gl.v = .none := by simpa using limit
  unfold limitAtSample
  dsimp only
  rw [limit]
  dsimp only
  split
  next above =>
    have clear : s.oq.pause.reach = false := by simpa [above] using reach
    unfold clearReach withPause
    rw [← clear]
  next => rfl

/-- A sample tick that declares nothing, without a LIFT (R164). -/
theorem exec_sampleTick_sound (faults : tickFaults r s.os = []) (inRange : strokeInRange (strokeReading r.stroke) = true)
    (kind : executingKind s ≠ some .lift) :
    exec (.sampleTick r) s = .next (formPermit (limitAtSample (takeSamples r s))) := by
  have unlifted : Machine.lifting (takeSamples r s) = false := by
    rw [Bool.eq_false_iff, Ne, lifting_iff]
    exact kind
  show Host.Outcome.next (sampleOutputs r s) = _
  rw [sampleOutputs_sound faults inRange, handStroke_unlifted unlifted]
  split
  next => rfl
  next quiet => rw [limitAtSample_inert (Bool.eq_false_iff.mpr quiet)]

theorem limitAtSample_quiet (below : s.oq.pause.reach = true → strokeSeen s ≤ s.clp.consts.strokeBottom)
    (down : s.gl.v < 0 → s.clp.consts.strokeBottom < strokeSeen s) (up : 0 < s.gl.v → strokeSeen s < s.clp.consts.strokeTop)
    (unlifted : Machine.lifting s = false) : limitAtSample s = s := by
  refine limitAtSample_inert ?_
  have limit : limitOf s.clp.consts (strokeSeen s) s.gl.v = .none := by
    unfold limitOf
    rw [if_neg fun h => Nat.not_lt.mpr h.1 (down h.2), if_neg fun h => Nat.not_lt.mpr h.1 (up h.2)]
  have reach : (s.oq.pause.reach && decide (s.clp.consts.strokeBottom < strokeSeen s)) = false := by
    rw [Bool.and_eq_false_imp]
    exact fun set => decide_eq_false (Nat.not_lt.mpr (below set))
  unfold strokeActs
  rw [limit, reach, unlifted]
  rfl

/-- A stroke sample at the bottom with V below 0 (R92, R94). -/
theorem limitAtSample_bottom (down : s.gl.v < 0) (low : strokeSeen s ≤ s.clp.consts.strokeBottom) :
    limitAtSample s = setReach s.gl.v (handOn 0 s) := by
  unfold limitAtSample limitOf
  dsimp only
  rw [if_neg (Nat.not_lt.mpr low), if_pos ⟨low, down⟩]

/-- Handing on 0 changes neither the samples nor the stroke last handed on. -/
theorem strokeSeen_handOn (v : Int) (s : State) : strokeSeen (handOn v s) = strokeSeen s := by
  unfold strokeSeen
  rw [(handOn_os_keeps v s).1, handOn_sm]
  cases s.sm <;> rfl

/-- Settles O41. -/
theorem sampleTick : Obligations.SampleTick := by
  intro r s kind low high raise lower o model stroke cut
  have raised := checkResult_good raise
  have lowered := checkResult_good lower
  have samples : takeSamples r s = { s with os := o, sm := model } := takeSamples_sound low high raised lowered
  have step := exec_sampleTick_sound (tickFaults_sound low high raised lowered) ((strokeInRange_iff _).mpr ⟨low, high⟩) kind
  rw [samples] at step
  have seen : strokeSeen { s with os := o, sm := model } = stroke := by
    unfold strokeSeen
    dsimp only [model, stroke, o]
    cases s.sm <;> rfl
  have unlifted : Machine.lifting { s with os := o, sm := model } = false := by
    rw [Bool.eq_false_iff, Ne, lifting_iff]
    exact kind
  obtain ⟨raiseOff, lowerOff⟩ := handOn_zero_duties { s with os := o, sm := model }
  obtain ⟨sameStroke, sameTilt, _⟩ := handOn_os_keeps 0 { s with os := o, sm := model }
  refine ⟨fun below down up => ?_, fun reach above up => ?_, fun down bottom => ⟨_, step, ?_⟩, fun up top above => ⟨_, step, ?_⟩⟩
  · rw [step, limitAtSample_quiet (by rw [seen]; exact below) (by rw [seen]; exact down) (by rw [seen]; exact up) unlifted]
  · rw [step, limitAtSample_above (by rw [seen]; exact above), if_neg (by rw [seen]; exact fun h => Nat.not_lt.mpr h.1 (up h.2))]
    rfl
  · rw [limitAtSample_bottom (by exact down) (by rw [seen]; exact bottom), setReach_eq]
    refine ⟨⟨rfl, raiseOff, lowerOff, sameStroke, sameTilt, rfl, rfl⟩, rfl, permitHolds_of_pause ?_, ?_⟩
    · simp [pauseEmpty]
    · show reachClp .bottom s.gl.v (handOn 0 { s with os := o, sm := model }) = _
      cases reach : s.oq.pause.reach with
      | true => exact if_neg fun h => Bool.noConfusion (reach.symm.trans (by exact h.2))
      | false => rw [reachClp_fired (by exact reach), strokeSeen_handOn, seen]; rfl
  · rw [limitAtSample_above (by rw [seen]; exact above), if_pos ⟨by rw [seen]; exact top, up⟩]
    exact ⟨⟨rfl, raiseOff, lowerOff, sameStroke, sameTilt, rfl, rfl⟩, rfl, rfl⟩

/-! ## The fault mark and the record through the queue (R167) -/

/-- The fault mark, the fault record and the health set are kept. -/
structure MarksKept (s t : State) : Prop where
  faulted : t.os.faulted = s.os.faulted := by rfl
  record : t.os.record = s.os.record := by rfl
  health : t.os.health = s.os.health := by rfl

theorem MarksKept.trans (h : MarksKept s t) (h' : MarksKept t u) : MarksKept s u :=
  ⟨h'.faulted.trans h.faulted, h'.record.trans h.record, h'.health.trans h.health⟩

theorem marksKept_of_os (h : t.os = s.os) : MarksKept s t :=
  ⟨congrArg Os.faulted h, congrArg Os.record h, congrArg Os.health h⟩

theorem marksKept_handOn (v : Int) (s : State) : MarksKept s (handOn v s) :=
  have ⟨_, _, faulted, record, health, _⟩ := handOn_os_keeps v s
  ⟨faulted, record, health⟩

theorem marksKept_leaveQueue (out : OpOutcome) (why : OpReason) (s : State) : MarksKept s (leaveQueue out why s) := by
  cases hops : s.oq.ops with
  | nil => rw [leaveQueue_nil hops]; exact {}
  | cons op rest =>
    obtain ⟨_, _, _, _, _, hos, _⟩ := leaveQueue_cons hops out why
    exact (marksKept_handOn 0 s).trans (marksKept_of_os hos)

theorem firstTie_os (n : Fin 6) (e : Fin 8) (c : Nat) (s : State) : (firstTie n e c s).os = s.os := by
  have ended : (endTie .rebased none s).os = s.os := by rw [endTie_keeps]
  unfold firstTie startBench
  dsimp only
  split
  · split <;> exact ended
  · exact ended

theorem createRun_os (n : Fin 6) (k0 c : Nat) (s : State) : (createRun n k0 c s).os = s.os := by
  unfold createRun
  dsimp only
  split
  · rw [fireMarker_eq]
  · rfl

theorem startDigHere_os (n : Fin 6) (k0 : Nat) (e : Fin 8) (s : State) : (startDigHere n k0 e s).os = s.os := by
  have made : (makeActive e s).os = s.os := by rw [makeActive_keeps]
  unfold startDigHere
  dsimp only
  split
  · refine (createRun_os _ _ _ _).trans ((firstTie_os _ _ _ _).trans made)
  · refine (createRun_os _ _ _ _).trans ((firstTie_os _ _ _ _).trans made)

theorem modifyHead_os (f : RunInfo → RunInfo) (s : State) : (modifyHead f s).os = s.os := by
  unfold modifyHead
  split
  · rfl
  · split <;> rfl

theorem marksKept_startActions (p : OpParams) (s : State) : MarksKept s (startActions p s) := by
  cases p with
  | dig n k0 e c0 =>
    refine marksKept_of_os ((startDigHere_os n k0 e (setAtStart c0 s)).trans ?_)
    cases c0 <;> rfl
  | plunge d => exact {}
  | hold target distance => exact marksKept_of_os (modifyHead_os _ s)
  | lift => exact marksKept_handOn _ s
  | dwell time => exact marksKept_of_os (modifyHead_os _ s)

theorem marksKept_markStarted (s : State) : MarksKept s (markStarted s) := by
  unfold markStarted
  split <;> exact {}

theorem marksKept_startHead : ∀ (fuel : Nat) (s : State), MarksKept s (startHead fuel s)
  | 0, _ => {}
  | fuel + 1, s => by
    have marked := marksKept_markStarted s
    unfold startHead
    split
    · exact {}
    · dsimp only
      split
      · exact marked.trans ((marksKept_leaveQueue _ _ _).trans (marksKept_startHead fuel _))
      · split
        · exact marked.trans ((marksKept_leaveQueue _ _ _).trans (marksKept_startHead fuel _))
        · exact marked.trans (marksKept_startActions _ _)

theorem marksKept_limitAtSample (s : State) : MarksKept s (limitAtSample s) := by
  unfold limitAtSample
  dsimp only
  cases limitOf s.clp.consts (strokeSeen s) s.gl.v with
  | bottom =>
    dsimp only
    rw [setReach_eq]
    split
    · exact (marksKept_handOn 0 s).trans {}
    · exact (marksKept_handOn 0 s).trans {}
  | top =>
    dsimp only
    split
    · exact (marksKept_handOn 0 s).trans {}
    · exact marksKept_handOn 0 s
  | none =>
    dsimp only
    split <;> exact {}

theorem marksKept_handStroke (s : State) : MarksKept s (handStroke s) := by
  have limited := marksKept_limitAtSample s
  unfold handStroke
  dsimp only
  split
  · exact limited.trans ((marksKept_leaveQueue _ _ _).trans (marksKept_startHead _ _))
  · exact limited

/-! ## A fault is declared (R166, R167) -/

/-- The part is FAULTED, with nothing driven, nothing queued and no tie. -/
structure Faulted (t : State) : Prop where
  mark : t.os.faulted = true
  raiseDuty : t.os.raiseDuty = 0
  lowerDuty : t.os.lowerDuty = 0
  record : t.os.record.isSome = true
  ops : t.oq.ops = []
  seq : t.oq.seq = .faulted
  tie : t.te.tie = none
  flag : t.clp.flags.getLsbD 14 = true

theorem declareFault_of_faulted (h : s.os.faulted = true) (cause : FaultCause) (reading : Int) :
    declareFault cause reading s = s := if_pos h

/-- The part as a fault finds it recorded, its queue not yet emptied (R166 step 1). -/
abbrev recorded (cause : FaultCause) (reading : Int) (s : State) : State :=
  fire (.fault (faultNow cause reading s)) (formPermit { s with os := faultedOutputs (faultNow cause reading s) s.os })

theorem emptyQueue_duties (raise : s.os.raiseDuty = 0) (lower : s.os.lowerDuty = 0) (out : OpOutcome) (why : OpReason) :
    (emptyQueue out why s).os.raiseDuty = 0 ∧ (emptyQueue out why s).os.lowerDuty = 0 := by
  by_cases held : s.oq.ops = []
  · rw [emptyQueue_of_nil held]
    exact ⟨raise, lower⟩
  · obtain ⟨_, _, _, _, _, _, raised, lowered, _⟩ := heldForNone_emptyQueue held out why
    exact ⟨raised, lowered⟩

theorem faulted_declareFault (sound : s.os.faulted = false) (cause : FaultCause) (reading : Int) :
    Faulted (declareFault cause reading s) := by
  have ops := emptyQueue_ops .failed .fault (recorded cause reading s)
  have gone := queueLeft_emptyQueue .failed .fault (recorded cause reading s)
  obtain ⟨raised, lowered⟩ := emptyQueue_duties (s := recorded cause reading s) rfl rfl .failed .fault
  have fired : (recorded cause reading s).clp.flags.getLsbD 14 = true := flag_fired (.fault _) _ _ _
  unfold declareFault
  rw [if_neg (by rw [sound]; exact nofun)]
  show Faulted (endTie .fault none { emptyQueue .failed .fault (recorded cause reading s) with
    oq := { (emptyQueue .failed .fault (recorded cause reading s)).oq with seq := .faulted } })
  generalize emptyQueue .failed .fault (recorded cause reading s) = v at ops gone raised lowered
  obtain ⟨faulted, record⟩ := gone.outputs
  have flag : v.clp.flags.getLsbD 14 = true := gone.flags 14 fired
  have keeps := endTie_keeps .fault none { v with oq := { v.oq with seq := .faulted } }
  exact {
    mark := by rw [keeps]; exact faulted
    raiseDuty := by rw [keeps]; exact raised
    lowerDuty := by rw [keeps]; exact lowered
    record := by rw [keeps]; show v.os.record.isSome = true; rw [record]; rfl
    ops := by rw [keeps]; exact ops
    seq := by rw [keeps]
    tie := endTie_tie _ _ _
    flag := by
      cases hr : v.te.tie with
      | none => rw [endTie_of_none (by exact hr)]; exact flag
      | some r => rw [endTie_of_some (by exact hr)]; exact flag_kept flag _ _ _ }

theorem faulted_handStroke (h : Faulted s) : Faulted (handStroke s) := by
  have marks := marksKept_limitAtSample s
  have frame := limitAtSample_keeps s
  have unlifted : Machine.lifting s = false := by
    rw [Bool.eq_false_iff, Ne, lifting_iff, executingKind_of_nil h.ops]
    exact nofun
  have limited : ((limitAtSample s).os.raiseDuty = 0 ∧ (limitAtSample s).os.lowerDuty = 0)
      ∧ (limitAtSample s).clp.flags.getLsbD 14 = true := by
    obtain ⟨raised, lowered⟩ := handOn_zero_duties s
    unfold limitAtSample
    dsimp only
    cases limitOf s.clp.consts (strokeSeen s) s.gl.v with
    | bottom =>
      have flag : (reachClp .bottom s.gl.v (handOn 0 s)).flags.getLsbD 14 = true := by
        unfold reachClp
        split
        · exact flag_kept h.flag _ _ _
        · exact h.flag
      dsimp only
      rw [setReach_eq]
      split <;> exact ⟨⟨raised, lowered⟩, flag⟩
    | top =>
      dsimp only
      split <;> exact ⟨⟨raised, lowered⟩, h.flag⟩
    | none =>
      dsimp only
      split <;> exact ⟨⟨h.raiseDuty, h.lowerDuty⟩, h.flag⟩
  obtain ⟨⟨raised, lowered⟩, flag⟩ := limited
  rw [handStroke_unlifted unlifted]
  exact {
    mark := marks.faulted.trans h.mark
    raiseDuty := raised
    lowerDuty := lowered
    record := by rw [marks.record]; exact h.record
    ops := by rw [frame]; exact h.ops
    seq := by rw [frame]; exact h.seq
    tie := by rw [frame]; exact h.tie
    flag := flag }

theorem faulted_takeItem (h : Faulted s) (x : TickItem) : Faulted (takeItem s x) := by
  cases x with
  | handStroke => exact faulted_handStroke h
  | fault cause reading =>
    show Faulted (declareFault cause reading s)
    rw [declareFault_of_faulted h.mark]
    exact h

/-- Once the part is FAULTED the rest of a tick leaves it so. -/
theorem faulted_foldl (l : List TickItem) (h : Faulted s) : Faulted (l.foldl takeItem s) := by
  induction l generalizing s with
  | nil => exact h
  | cons x xs ih => exact ih (faulted_takeItem h x)

/-- A tick whose items hold a fault ends FAULTED, wherever the fault stands among them. -/
theorem faulted_of_mem {cause : FaultCause} {reading : Int} {l : List TickItem} (mem : .fault cause reading ∈ l)
    (sound : s.os.faulted = false) : Faulted (l.foldl takeItem s) := by
  induction l generalizing s with
  | nil => cases mem
  | cons x xs ih =>
    cases x with
    | fault cause' reading' => exact faulted_foldl xs (faulted_declareFault sound cause' reading')
    | handStroke =>
      rcases List.mem_cons.mp mem with here | later
      · cases here
      · exact ih later ((marksKept_handStroke s).faulted.trans sound)

theorem faulted_takeItems {cause : FaultCause} {reading : Int} {l : List TickItem} (mem : .fault cause reading ∈ l)
    (sound : s.os.faulted = false) : Faulted (takeItems l s) := by
  unfold takeItems
  split
  · exact faulted_of_mem mem sound
  · exact faulted_of_mem (s := { s with free := s.free + 1 }) ((inPickedOrder_perm _ _ l rfl).mem_iff.mpr mem) sound

theorem marksKept_foldl (l : List TickItem) (h : s.os.faulted = true) : MarksKept s (l.foldl takeItem s) := by
  induction l generalizing s with
  | nil => exact {}
  | cons x xs ih =>
    have one : MarksKept s (takeItem s x) := by
      cases x with
      | handStroke => exact marksKept_handStroke s
      | fault cause reading => exact marksKept_of_os (congrArg State.os (declareFault_of_faulted h cause reading))
    exact one.trans (ih (one.faulted.trans h))

theorem marksKept_takeItems (l : List TickItem) (h : s.os.faulted = true) : MarksKept s (takeItems l s) := by
  unfold takeItems
  split
  · exact marksKept_foldl l h
  · exact MarksKept.trans {} (marksKept_foldl (s := { s with free := s.free + 1 }) _ h)

/-- A stroke out of range or a coil that fails its check is among what a tick declares (R163, R164). -/
theorem mem_tickItems (h : strokeReading r.stroke < 0 ∨ 1000 < strokeReading r.stroke
      ∨ ((0 < s.os.raiseDuty ∧ 3000 < r.raise.current) ∨ (s.os.raise.openCount = 2
          ∧ ((s.os.raiseDuty = 0 ∧ r.raise.path = false) ∨ (100 ≤ s.os.raiseDuty ∧ r.raise.current < 50))))
      ∨ ((0 < s.os.lowerDuty ∧ 3000 < r.lower.current) ∨ (s.os.lower.openCount = 2
          ∧ ((s.os.lowerDuty = 0 ∧ r.lower.path = false) ∨ (100 ≤ s.os.lowerDuty ∧ r.lower.current < 50))))) (t : State) :
    ∃ cause reading, .fault cause reading ∈ tickItems r s t := by
  have range (out : strokeReading r.stroke < 0 ∨ 1000 < strokeReading r.stroke) :
      ∃ cause reading, .fault cause reading ∈ tickItems r s t := by
    refine ⟨.strokeRange, strokeReading r.stroke, List.mem_append_right _ ?_⟩
    refine List.mem_append_left _ (List.mem_append_left _ ?_)
    rw [strokeInRange_of_out out]
    exact List.mem_singleton.mpr rfl
  rcases h with out | out | raise | lower
  · exact range (.inl out)
  · exact range (.inr out)
  · obtain ⟨cause, mem⟩ := coilFault_seen raise .coilOpenRaise .coilShortRaise
    exact ⟨cause, _, List.mem_append_right _ (List.mem_append_left _ (List.mem_append_right _ mem))⟩
  · obtain ⟨cause, mem⟩ := coilFault_seen lower .coilOpenLower .coilShortLower
    exact ⟨cause, _, List.mem_append_right _ (List.mem_append_right _ mem)⟩

/-- FAULTED withdraws the permit (R169). -/
theorem permitHolds_of_faulted (h : t.os.faulted = true) : permitHolds t = false := by
  unfold permitHolds
  rw [h]
  exact Bool.and_false _

/-- Settles O42. -/
theorem faultIsDeclaredAndCleared : Obligations.FaultIsDeclaredAndCleared := by
  intro r tag s seen
  refine ⟨fun sound h => ⟨_, rfl, ?_⟩, fun faulted => ⟨_, rfl, ?_⟩, fun faulted health => ?_, fun faulted health => ?_,
    fun sound => ?_⟩
  · obtain ⟨cause, reading, mem⟩ := mem_tickItems h (takeSamples r s)
    have f := faulted_takeItems (s := takeSamples r s) mem sound
    obtain ⟨permit, pin⟩ := permit_of_nil f.ops
    exact ⟨f.mark, f.raiseDuty, f.lowerDuty, permit, pin, f.record, f.ops, f.seq, f.tie, f.flag⟩
  · have kept := marksKept_takeItems (s := takeSamples r s) (tickItems r s (takeSamples r s)) faulted
    have still := kept.faulted.trans faulted
    refine ⟨still, kept.record, permitHolds_of_faulted still, (congrArg Health.strokeRange kept.health).trans ?_⟩
    show (!strokeInRange (strokeReading r.stroke)) = _
    by_cases out : strokeReading r.stroke < 0 ∨ 1000 < strokeReading r.stroke
    · rw [strokeInRange_of_out out, decide_eq_true out]
      rfl
    · rw [(strokeInRange_iff _).mpr (by omega), decide_eq_false out]
      rfl
  · simp [exec, execClearFault, faulted, health, clearedOutputs]
  · simp [exec, execClearFault, faulted, health]
  · simp [exec, execClearFault, sound]

end Sys2Proof.Proofs
end

section
/-! The Shadow Model: its step, and SHADOW_ON, SHADOW_OFF and SHADOW_GAP (R173 to R181). -/

namespace Sys2Proof.Proofs

open Sys2Proof.Machine Sys2Proof.Safety Sys2Proof.Laws

variable {s t u : State} {m : Shadow} {i : Fin 8}

/-! ## A chainage handed on leaves the accumulator alone (R25) -/

/-- The accumulator and its source are kept, and no operation is added. -/
structure AccKept (s t : State) : Prop where
  acc : t.cc.acc = s.cc.acc := by rfl
  source : t.cc.source = s.cc.source := by rfl
  ops : t.oq.ops.length ≤ s.oq.ops.length := by exact Nat.le_refl _

theorem AccKept.trans (h : AccKept s t) (h' : AccKept t u) : AccKept s u :=
  ⟨h'.acc.trans h.acc, h'.source.trans h.source, h'.ops.trans h.ops⟩

/-- Where nothing waits behind it, the end of the head starts no DIG that would set the chainage. -/
theorem accKept_completeHead (few : s.oq.ops.length ≤ 1) (out : OpOutcome) (why : OpReason) :
    AccKept s (completeHead out why s) := by
  match hops : s.oq.ops with
  | [] =>
    unfold completeHead
    rw [leaveQueue_nil hops]
    dsimp only
    rw [startHead_nil hops]
    exact {}
  | [op] =>
    have done := completed_of_single hops out why
    exact ⟨by rw [done.cc], by rw [done.cc], by rw [done.oq]; exact Nat.zero_le _⟩
  | _ :: _ :: _ => rw [hops] at few; simp at few

theorem accKept_exchange (s : State) : AccKept s (exchange s) := by
  unfold exchange
  split
  · exact {}
  · dsimp only
    split
    · exact {}
    · split
      · exact {}
      · rw [clearWindow_map, fireMarker_eq]
        exact {}

theorem accKept_boundaryTest : ∀ (fuel : Nat) (s : State), s.oq.ops.length ≤ 1 → AccKept s (boundaryTest fuel s)
  | 0, _, _ => {}
  | fuel + 1, s, few => by
    unfold boundaryTest
    split
    · split
      · split
        · split
          · exact (accKept_exchange s).trans (accKept_boundaryTest fuel _ ((accKept_exchange s).ops.trans few))
          · exact {}
        · unfold completeIfStill
          split
          · exact AccKept.trans {} (accKept_completeHead (s := reachEnd _ s) few _ _)
          · exact {}
      · exact {}
    · exact {}

theorem accKept_raiseHighWater (few : s.oq.ops.length ≤ 1) : AccKept s (raiseHighWater s) := by
  unfold raiseHighWater testBoundary
  split
  · split
    · split
      · exact AccKept.trans {} (accKept_boundaryTest _ { s with cc := { s.cc with chw := some (chainage s) } } few)
      · exact {}
    · exact {}
  · exact {}

theorem accKept_detectMovement (s : State) : AccKept s (detectMovement s) := by
  obtain ⟨acc, _, _, source, _⟩ := detectedCc_keeps s
  rw [detectMovement_eq]
  exact { acc := acc, source := source }

theorem accKept_watchLoop (s : State) : AccKept s (watchLoop s) := by
  unfold watchLoop
  split <;> exact {}

theorem accKept_watchBench (s : State) : AccKept s (watchBench s) := by
  unfold watchBench
  split
  · exact {}
  · split
    · exact {}
    · split <;> exact {}

theorem accKept_watchTie (s : State) : AccKept s (watchTie s) := by
  unfold watchTie
  split
  · exact {}
  · split
    · rw [endTie_keeps]; exact {}
    · exact {}

theorem accKept_modifyHead (f : RunInfo → RunInfo) (s : State) : AccKept s (modifyHead f s) := by
  unfold modifyHead
  split
  · exact {}
  · split
    · exact {}
    next hops _ _ _ => exact { ops := by rw [hops]; exact Nat.le_refl _ }

theorem accKept_newCycle (p : OpParams) (s : State) : AccKept s (newCycle p s) := by
  cases p with
  | hold target distance => exact accKept_modifyHead _ s
  | dwell time => exact (accKept_modifyHead _ s).trans {}
  | _ => exact {}

theorem accKept_watchHold (few : s.oq.ops.length ≤ 1) : AccKept s (watchHold s) := by
  unfold watchHold endCycle
  split
  · split
    · exact {}
    · split
      · exact accKept_newCycle _ s
      · exact accKept_completeHead few _ _
  · exact {}

theorem accKept_handChainage (few : s.oq.ops.length ≤ 1) : AccKept s (handChainage s) := by
  have seen := (accKept_raiseHighWater few).trans (accKept_detectMovement (raiseHighWater s))
  have watched := ((seen.trans (accKept_watchLoop _)).trans (accKept_watchBench _)).trans (accKept_watchTie _)
  exact watched.trans (accKept_watchHold (watched.ops.trans few))

theorem applyStep_acc (forward : Bool) (size : Nat) (s : State) :
    (applyStep forward size s).cc.acc = steppedAcc forward s.cc.acc size
      ∧ (applyStep forward size s).cc.source = s.cc.source ∧ (applyStep forward size s).oq = s.oq := by
  unfold applyStep
  dsimp only
  split
  · split <;> exact ⟨rfl, rfl, rfl⟩
  · exact ⟨rfl, rfl, rfl⟩

/-- A step with nothing waiting behind the head leaves the accumulator as stepped (R25, R26, R178). -/
theorem stepChainage_acc (few : s.oq.ops.length ≤ 1) (forward : Bool) (size : Nat) :
    (stepChainage forward size s).cc.acc = steppedAcc forward s.cc.acc size
      ∧ (stepChainage forward size s).cc.source = s.cc.source := by
  obtain ⟨acc, source, oq⟩ := applyStep_acc forward size s
  have handed := accKept_handChainage (s := applyStep forward size s) (by rw [oq]; exact few)
  unfold stepChainage
  dsimp only
  split
  · exact ⟨acc, source⟩
  · exact ⟨handed.acc.trans acc, handed.source.trans source⟩

/-! ## The model's step (R177 to R180) -/

theorem exec_shadowPeriod (hm : s.sm = some m) :
    exec .shadowPeriodTimerExpiry s = .next (formPermit (modelStep m s)) := by
  show execShadowPeriodTimerExpiry s = _
  unfold execShadowPeriodTimerExpiry
  rw [hm]

/-- The model after the boom stage, its next period set. -/
abbrev boomed (m : Shadow) (s : State) : Shadow :=
  { boomStage s.clp.consts m with due := after s.clock s.clp.consts.shadowPeriod }

theorem modelStep_standing (withdrawn : s.os.permit = false) :
    modelStep m s = strikeStage { s with sm := some (boomed m s) } := by
  unfold modelStep travelStage
  dsimp only
  rw [if_neg (by rw [withdrawn]; exact nofun)]

theorem gapNow_open {g : Gap} {c : Nat} (h : c < g.start + g.distance) : gapNow c (some g) = some g :=
  if_neg (Nat.not_le.mpr h)

theorem gapNow_closed {gap : Option Gap} {c : Nat} (h : gap = none ∨ ∃ g, gap = some g ∧ g.start + g.distance ≤ c) :
    gapNow c gap = none := by
  rcases h with rfl | ⟨g, rfl, reached⟩
  · rfl
  · exact if_pos reached

/-- In a gap no strike is made (R180). -/
theorem strikeStage_in_gap {g : Gap} (hm : s.sm = some m) (gap : gapNow (chainage s) m.gap = some g) (same : m.gap = some g) :
    strikeStage s = s := by
  have kept : { s with sm := some { m with gap := some g } } = s := by rw [← same, ← hm]
  unfold strikeStage
  rw [hm]
  dsimp only
  rw [gap]
  exact kept

/-- Out of a gap the ACTIVE entry is struck (R179). -/
theorem strikeStage_strikes (hm : s.sm = some m) (gap : gapNow (chainage s) m.gap = none) (act : activeEntry s = some i) :
    strikeStage s = offerStrike (generatedStrike { m with gap := none } (entryAt s i) s)
      { s with sm := some { m with gap := none } } := by
  have act' : activeEntry { s with sm := some { m with gap := none } } = some i := act
  unfold strikeStage
  rw [hm]
  dsimp only
  rw [gap, act']
  rfl

theorem accKept_strikeStage (s : State) : AccKept s (strikeStage s) := by
  unfold strikeStage
  split
  · exact {}
  · dsimp only
    split
    · unfold offerStrike
      split
      · rw [countOverrun_eq]; exact {}
      · exact {}
    · exact {}

theorem generatedCells_inside {b : Int} (low : -95 ≤ b) (high : b ≤ 95) :
    generatedCells b = (0, BitVec.ofNat 8 ((b + 95).toNat / 2), BitVec.ofNat 8 (((b + 95).toNat + 1) / 2)) := by
  have other : (b + 95).toNat - (b + 95).toNat / 2 = ((b + 95).toNat + 1) / 2 := by omega
  unfold generatedCells
  rw [if_neg (by omega), if_neg (by omega)]
  dsimp only
  rw [other]

theorem generatedCells_above {b : Int} (h : 95 < b) : generatedCells b = (1, 0, 0) := if_pos h

theorem generatedCells_below {b : Int} (h : b < -95) : generatedCells b = (2, 0, 0) := by
  unfold generatedCells
  rw [if_neg (by omega), if_pos h]

/-- A strike generated with known cells. -/
theorem generatedStrike_eq {status first last : Byte} (cells : generatedCells (m.ds - m.mast) = (status, first, last))
    (e : PlaneEntry) (s : State) : generatedStrike m e s = {
      sig := BitVec.ofNat 8 e.sigLo, first := first, last := last, status := status, chainage := chainage s
      time := s.clock, generated := true } := by
  unfold generatedStrike
  rw [cells]

/-- Settles O43. -/
theorem shadowStep : Obligations.ShadowStep := by
  intro m s hm k free change m' b
  have boom : boomed m s = m' := rfl
  refine ⟨fun g withdrawn gap far => ?_, fun i withdrawn gap act empty => ?_, fun given few => ⟨_, exec_shadowPeriod hm, ?_⟩⟩
  · rw [exec_shadowPeriod hm, modelStep_standing withdrawn, boom]
    rw [strikeStage_in_gap (s := { s with sm := some m' }) rfl
      ((congrArg (gapNow (chainage s)) gap).trans (gapNow_open far)) gap]
  · intro strike with_
    have struck (status first last : Byte) (cells : generatedCells b = (status, first, last)) :
        exec .shadowPeriodTimerExpiry s = .next (with_ (strike status first last)) := by
      rw [exec_shadowPeriod hm, modelStep_standing withdrawn, boom,
        strikeStage_strikes (s := { s with sm := some m' }) rfl (gapNow_closed gap) act,
        generatedStrike_eq (m := { m' with gap := none }) cells, offerStrike_empty (by exact empty)]
      rfl
    exact ⟨fun low high => struck _ _ _ (generatedCells_inside low high), fun high => struck _ _ _ (generatedCells_above high),
      fun low => struck _ _ _ (generatedCells_below low)⟩
  · obtain ⟨acc, source⟩ := stepChainage_acc (s := { s with sm := some m' }) few true (k.shadowSpeed * k.shadowPeriod)
    have travelled : modelStep m s
        = strikeStage (stepChainage true (k.shadowSpeed * k.shadowPeriod) { s with sm := some m' }) := by
      unfold modelStep travelStage
      dsimp only
      rw [if_pos given]
      rfl
    rw [travelled]
    have kept := accKept_strikeStage (stepChainage true (k.shadowSpeed * k.shadowPeriod) { s with sm := some m' })
    exact ⟨kept.acc.trans acc, kept.source.trans source⟩

/-! ## SHADOW_ON, SHADOW_OFF and SHADOW_GAP -/

theorem exec_shadowOn_refused {code : ResultCode} (test : shadowOnTest s = .inl code) (tag : Nat) :
    exec (.shadowOn tag) s = .next (refuse .shadowOn tag code s) := by
  simp [exec, execShadowOn, test]

theorem startDepth_eq (mast : Nat) (e : PlaneEntry) :
    startDepth mast e = mast + (e.last.bind fun x => beamOffset x.beam).getD 0 := by
  unfold startDepth
  cases e.last with
  | none => exact (Int.add_zero _).symm
  | some x => rfl

/-- A shadow run begins with the chainage at its whole millimetres (R173, R175, R176). -/
theorem beginShadow_eq (e : PlaneEntry) (s : State) : beginShadow e s = formPermit { s with
    cc := { s.cc with acc := 1000 * chainage s, limitLatch := false, anchor := chainage s, source := .shadow }
    os := setDuties 0 0 s.os
    sm := some (startModel e s) } := by
  have anchor : 1000 * chainage s / 1000 = chainage s := by omega
  unfold beginShadow setAccumulator
  dsimp only
  rw [anchor]

theorem exec_shadowOff (hm : s.sm = some m) (empty : s.oq.ops = []) (tag : Nat) :
    exec (.shadowOff tag) s = .next (answer .shadowOff tag .ok .none (endShadow s)) := by
  simp [exec, execShadowOff, hm, empty]

theorem leaveShadow_of_some (hm : s.sm = some m) : leaveShadow s = { s with
    cc := { s.cc with acc := m.setAside, limitLatch := false, anchor := m.setAside / 1000, source := .wheel }
    sm := none } := by
  unfold leaveShadow
  rw [hm]
  rfl

/-- A shadow run ends: the tie first, then the model (R136, R181). -/
theorem endShadow_eq (hm : s.sm = some m) (h : endTie .stopped none s = u) (same : u.sm = s.sm) :
    endShadow s = formPermit { u with
      cc := { u.cc with acc := m.setAside, limitLatch := false, anchor := m.setAside / 1000, source := .wheel }
      mlr := { u.mlr with slot := u.mlr.slot.filter fun x => !x.generated }
      sm := none } := by
  unfold endShadow
  rw [h, leaveShadow_of_some (s := dropGenerated u) (same.trans hm)]
  rfl

/-- Settles O44. -/
theorem shadowRequests : Obligations.ShadowRequests := by
  intro tag s
  refine ⟨fun i real sound empty idle act => ?_, fun on => exec_shadowOn_refused ?_ tag,
    fun real faulted => exec_shadowOn_refused ?_ tag, fun real sound held => exec_shadowOn_refused ?_ tag,
    fun real sound empty idle act => exec_shadowOn_refused ?_ tag, fun m hm empty idle => ?_, fun m r hm empty hr => ?_,
    fun real => ?_, fun m hm held => ?_, fun m distance hm short => ?_, fun distance far => ?_, fun distance real short => ?_⟩
  · have test : shadowOnTest s = .inr i := by simp [shadowOnTest, real, sound, empty, tieInFlight, idle, act]
    have begins : exec (.shadowOn tag) s = .next (answer .shadowOn tag .ok .none (beginShadow (entryAt s i) s)) := by
      simp [exec, execShadowOn, test]
    rw [begins, beginShadow_eq]
    unfold startModel
    rw [startDepth_eq]
    rfl
  · exact if_pos (Option.isSome_iff_ne_none.mpr on)
  · simp [shadowOnTest, real, faulted]
  · unfold shadowOnTest
    rw [if_neg (by rw [real]; exact nofun), if_neg (by rw [sound]; exact nofun)]
    by_cases queued : s.oq.ops = []
    · have tied := held.resolve_left (absurd queued)
      simp [queued, tieInFlight, Option.isSome_iff_ne_none, tied]
    · simp [queued]
  · simp [shadowOnTest, real, sound, empty, tieInFlight, idle, act]
  · rw [exec_shadowOff hm empty, endShadow_eq hm (endTie_of_none idle _ _) rfl]
  · have left := endShadow_eq hm (endTie_of_some hr .stopped none) rfl
    refine ⟨_, exec_shadowOff hm empty tag, ?_⟩
    rw [left]
    exact ⟨rfl, entryAt_modifyEntry_same r.candidate (fun p => { p with role := .standby, tie := none }) s,
      fun j other => entryAt_modifyEntry_of_ne other (fun p => { p with role := .standby, tie := none }) s, rfl, rfl, rfl, rfl, rfl⟩
  · simp [exec, execShadowOff, real]
  · simp [exec, execShadowOff, hm, held]
  · have near : ¬ gapTop < distance := Nat.not_lt.mpr short
    simp [exec, execShadowGap, near, hm, newGap]
  · have beyond : gapTop < distance := far
    simp [exec, execShadowGap, beyond]
  · have near : ¬ gapTop < distance := Nat.not_lt.mpr short
    simp [exec, execShadowGap, near, real]

end Sys2Proof.Proofs
end

section
/-! The receiver of the cab line (R183, R185 to R187). -/

namespace Sys2Proof.Proofs

open Sys2Proof.Machine Sys2Proof.Safety Sys2Proof.Laws

variable {s : State} {bytes body : List Byte} {data : Byte} {due : Time}

/-! ## A byte on the line (R185) -/

theorem exec_cabByte_held (held : s.clp.held = true) (data : Byte) (stop : Bool) : exec (.cabByte data stop) s = .next s :=
  if_pos held

theorem exec_cabByte_hunting (held : s.clp.held = false) (rx : s.clp.rx = .hunting) (data : Byte) (stop : Bool) :
    exec (.cabByte data stop) s
      = .next (if stop && data == cabSync then setCabRx (.collecting [data] (s.clock + 2)) s else s) := by
  simp only [exec, execCabByte, held, Bool.false_eq_true, if_false, takeCabByte, rx]
  rfl

theorem exec_cabByte_collecting (held : s.clp.held = false) (rx : s.clp.rx = .collecting bytes due) (data : Byte) :
    exec (.cabByte data true) s = .next (collectCabByte data bytes s) := by
  simp [exec, execCabByte, held, takeCabByte, rx]

theorem exec_cabByte_low (held : s.clp.held = false) (rx : s.clp.rx = .collecting bytes due) (data : Byte) :
    exec (.cabByte data false) s = .next (dropCabFrame s) := by
  simp [exec, execCabByte, held, takeCabByte, rx]

/-! ## The bytes of a frame (R183) -/

theorem beNat_single (b : Byte) : beNat [b] = b.toNat := by simp [beNat]

theorem field_of_drop {frame rest : List Byte} {b : Byte} {offset : Nat} (h : frame.drop offset = b :: rest) :
    field frame offset 1 = b.toNat := by
  unfold field
  rw [h, List.take_succ_cons, List.take_zero, beNat_single]

/-- The length byte of a frame of which five bytes are there. -/
theorem lengthByte_append (four : bytes.length = 4) (data : Byte) : field (bytes ++ [data]) 4 1 = data.toNat :=
  field_of_drop (List.drop_left' four)

theorem collectCabByte_head (few : bytes.length < 4) (data : Byte) (s : State) :
    collectCabByte data bytes s = setCabRx (.collecting (bytes ++ [data]) (s.clock + 2)) s := by
  unfold collectCabByte
  dsimp only
  rw [if_pos (by rw [List.length_append, List.length_singleton]; omega)]
  rfl

/-- What five bytes and more make of a frame, by its length byte. -/
theorem collectCabByte_long {n : Nat} (many : 4 ≤ bytes.length) (length : field (bytes ++ [data]) 4 1 = n) (s : State) :
    collectCabByte data bytes s =
      if 48 < n then dropCabFrame s
      else if bytes.length + 1 < 7 + n then setCabRx (.collecting (bytes ++ [data]) (s.clock + 2)) s
      else checkCabFrame (bytes ++ [data]) s := by
  unfold collectCabByte
  dsimp only
  rw [length, if_neg (by rw [List.length_append, List.length_singleton]; omega), List.length_append, List.length_singleton]
  rfl

theorem beNat_pair (high low : Byte) : beNat [high, low] = (high ++ low).toNat := by
  rw [BitVec.toNat_append, ← Nat.shiftLeft_add_eq_or_of_lt low.isLt, Nat.shiftLeft_eq]
  simp [beNat]
  omega

/-- The CRC test of a whole frame, its parts named (R183). -/
theorem crcAgrees_eq (sync : Byte) (covered : List Byte) (high low : Byte) :
    crcAgrees (sync :: covered ++ [high, low]) = decide (crc16 covered = high ++ low) := by
  have length : (sync :: covered ++ [high, low]).length = covered.length + 3 := by simp
  have front : ((sync :: covered ++ [high, low]).drop 1).take (covered.length + 3 - 3) = covered := by simp
  have back : (sync :: covered ++ [high, low]).drop (covered.length + 3 - 2) = [high, low] :=
    List.drop_left' (by simp)
  unfold crcAgrees
  dsimp only
  rw [length, front, back, beNat_pair, Bool.eq_iff_iff, beq_iff_eq, decide_eq_true_iff, BitVec.toNat_inj]

/-- The length byte of a frame with its head. -/
theorem lengthByte_head (sync address kind tag length : Byte) (rest : List Byte) :
    field ([sync, address, kind, tag, length] ++ rest) 4 1 = length.toNat := field_of_drop (rest := rest) rfl

/-- Settles O45. -/
theorem cabReceiver : Obligations.CabReceiver := by
  intro data stop s dropped
  refine ⟨fun held => exec_cabByte_held held data stop, fun held rx good sync => ?_, fun held rx bad => ?_,
    fun bytes due held rx good few => ?_, fun bytes due held rx bad => ?_, fun bytes due held rx good four short => ?_,
    fun sync address kind tag length body due held rx good short fits => ?_,
    fun sync address kind tag length body high due held rx good short whole crc => ?_, fun bytes due rx => ?_,
    fun r reply => ?_⟩
  · subst good sync
    exact exec_cabByte_hunting held rx _ _
  · have other : (stop && data == cabSync) = false := by
      rcases bad with rfl | other
      · rfl
      · rw [Bool.and_eq_false_iff]
        exact .inr (beq_eq_false_iff_ne.mpr other)
    rw [exec_cabByte_hunting held rx, other]
    rfl
  · subst good
    rw [exec_cabByte_collecting held rx, collectCabByte_head few]
    rfl
  · cases stop with
    | false => exact exec_cabByte_low held rx data
    | true =>
      obtain ⟨four, long⟩ := bad.resolve_left nofun
      rw [exec_cabByte_collecting held rx, collectCabByte_long (by omega) (lengthByte_append four data), if_pos long]
      rfl
  · subst good
    rw [exec_cabByte_collecting held rx, collectCabByte_long (by omega) (lengthByte_append four data),
      if_neg (by omega), if_pos (by omega)]
    rfl
  · subst good
    have size : ([sync, address, kind, tag, length] ++ body).length = 5 + body.length := by simp; omega
    rw [exec_cabByte_collecting held rx, collectCabByte_long (n := length.toNat) (by omega)
      (by rw [List.append_assoc]; exact lengthByte_head sync address kind tag length (body ++ [data])),
      if_neg (by omega), if_pos (by omega)]
    rfl
  · subst good
    have size : ([sync, address, kind, tag, length] ++ body ++ [high]).length = 6 + body.length := by simp; omega
    have frame : [sync, address, kind, tag, length] ++ body ++ [high] ++ [data]
        = sync :: ([address, kind, tag, length] ++ body) ++ [high, data] := by simp
    have wrong : crcAgrees ([sync, address, kind, tag, length] ++ body ++ [high] ++ [data]) = false := by
      rw [frame, crcAgrees_eq]
      exact decide_eq_false crc
    rw [exec_cabByte_collecting held rx, collectCabByte_long (n := length.toNat) (by omega)
      (by rw [List.append_assoc, List.append_assoc]; exact lengthByte_head sync address kind tag length (body ++ ([high] ++ [data]))),
      if_neg (by omega), if_neg (by omega), checkCabFrame, wrong]
    rfl
  · simp only [exec, execCabGapTimerExpiry, rx]
    rfl
  · simp only [exec, execReplyComplete, reply]

/-! ## A good frame (R186, R187) -/

theorem toNat_ofInt_byte (v : Int) (n : Nat) (h : v = n) : (BitVec.ofInt 8 v).toNat = n % 256 := by
  subst h
  rw [BitVec.ofInt_natCast, BitVec.toNat_ofNat]

/-- A number of 16 bits comes back from its two bytes (R183). -/
theorem number_two (c : BitVec 16) : ∃ high low : Byte, number 2 c.toNat = [high, low] ∧ high ++ low = c := by
  refine ⟨BitVec.ofInt 8 ((c.toNat : Int) / (256 ^ 1 : Nat)), BitVec.ofInt 8 ((c.toNat : Int) / (256 ^ 0 : Nat)), rfl, ?_⟩
  have top := toNat_ofInt_byte ((c.toNat : Int) / (256 ^ 1 : Nat)) (c.toNat / 256) (by simp)
  have bottom := toNat_ofInt_byte ((c.toNat : Int) / (256 ^ 0 : Nat)) c.toNat (by simp)
  have small := c.isLt
  refine BitVec.eq_of_toNat_eq ?_
  rw [← beNat_pair]
  simp only [beNat, List.foldl_cons, List.foldl_nil, top, bottom]
  omega

/-- The parts of a frame that was formed with its CRC (R183). -/
structure FrameParts (frame : List Byte) (address kind tag : Nat) (body : List Byte) : Prop where
  size : frame.length = 7 + body.length
  crc : crcAgrees frame = true
  address : field frame 1 1 = address
  kind : field frame 2 1 = kind
  tag : field frame 3 1 = tag
  length : field frame 4 1 = body.length
  body : (frame.drop 5).take (frame.length - 7) = body

theorem frameOf_parts {address kind tag : Nat} (ha : address < 256) (hk : kind < 256) (ht : tag < 256)
    (hb : body.length ≤ 48) : FrameParts (frameOf address kind tag body) address kind tag body := by
  obtain ⟨high, low, bytes, joined⟩ := number_two (crc16
    ([BitVec.ofNat 8 address, BitVec.ofNat 8 kind, BitVec.ofNat 8 tag, BitVec.ofNat 8 body.length] ++ body))
  have frame : frameOf address kind tag body = cabSync :: ([BitVec.ofNat 8 address, BitVec.ofNat 8 kind, BitVec.ofNat 8 tag,
      BitVec.ofNat 8 body.length] ++ body) ++ [high, low] := by rw [← bytes]; rfl
  have size : (frameOf address kind tag body).length = 7 + body.length := by rw [frame]; simp; omega
  have byte {n : Nat} (h : n < 256) : (BitVec.ofNat 8 n).toNat = n := by rw [BitVec.toNat_ofNat]; exact Nat.mod_eq_of_lt h
  exact {
    size := size
    crc := by rw [frame, crcAgrees_eq, joined]; exact decide_eq_true rfl
    address := (field_of_drop (by rw [frame]; rfl)).trans (byte ha)
    kind := (field_of_drop (by rw [frame]; rfl)).trans (byte hk)
    tag := (field_of_drop (by rw [frame]; rfl)).trans (byte ht)
    length := (field_of_drop (by rw [frame]; rfl)).trans (byte (by omega))
    body := by rw [size, frame]; simp }

/-- The last byte of a good frame hands it on by its address (R185, R186). -/
theorem exec_cabByte_good {address kind tag : Nat} (held : s.clp.held = false) (rx : s.clp.rx = .collecting bytes due)
    (h : FrameParts (bytes ++ [data]) address kind tag body) (short : body.length ≤ 48) :
    exec (.cabByte data true) s = .next (goodCabFrame address kind tag body (setCabRx .hunting s)) := by
  have size : bytes.length + 1 = 7 + body.length := by rw [← h.size, List.length_append]; rfl
  rw [exec_cabByte_collecting held rx, collectCabByte_long (by omega) h.length, if_neg (by omega), if_neg (by omega),
    checkCabFrame, if_pos h.crc, h.address, h.kind, h.tag, h.body]

theorem goodCabFrame_addressed {address kind tag : Nat} (ha : address = 16 * s.clp.address) :
    goodCabFrame address kind tag body s = addressedRequest kind tag body s := by
  unfold goodCabFrame
  rw [if_neg (by omega), if_pos (by omega)]

theorem goodCabFrame_broadcast {kind tag : Nat} (low : s.clp.address ≤ 3) :
    goodCabFrame 0xF0 kind tag body s = broadcastFrame kind tag body s := by
  unfold goodCabFrame
  rw [if_neg (by decide), if_neg (by omega), if_pos (by decide)]

theorem goodCabFrame_other {address kind tag : Nat} (own : address ≠ 16 * s.clp.address) (all : address ≠ 0xF0) :
    goodCabFrame address kind tag body s = s := by
  unfold goodCabFrame
  split
  · rfl
  · rw [if_neg (by omega), if_neg (by omega)]

/-- The receiver hunts again, listening as it did, and nothing more is in hand. -/
theorem setCabRx_hunting (held : s.clp.held = false) : setCabRx .hunting s = { s with
    clp := { s.clp with rx := .hunting, held := false, inHand := s.clp.inHand ++ [] } } := by
  rw [List.append_nil, ← held]
  rfl

/-- Settles O46. -/
theorem goodCabFrame : Obligations.GoodCabFrame := by
  intro address kind tag body bytes data due s ha hk ht hb held low rx frame heard
  have parts := frameOf_parts ha hk ht hb
  rw [← frame] at parts
  have good := exec_cabByte_good held rx parts hb
  refine ⟨fun q own known fits => ?_, fun own unknown => ?_, fun q own known wrong => ?_, fun all stop empty => ?_,
    fun all other => ?_, fun own all => ?_⟩
  · rw [good, goodCabFrame_addressed (s := setCabRx .hunting s) own]
    simp only [addressedRequest, known, fits, if_true]
    rfl
  · rw [good, goodCabFrame_addressed (s := setCabRx .hunting s) own]
    simp only [addressedRequest, unknown]
    rfl
  · rw [good, goodCabFrame_addressed (s := setCabRx .hunting s) own]
    simp only [addressedRequest, known, wrong, Bool.false_eq_true, if_false]
    rfl
  · subst all stop empty
    rw [good, goodCabFrame_broadcast (s := setCabRx .hunting s) low]
    show Host.Outcome.next (putInHand _ (setCabRx .hunting s)) = _
    rw [show setCabRx .hunting s = { s with clp := { s.clp with rx := .hunting, held := false } } by rw [← held]; rfl]
    rfl
  · subst all
    rw [good, goodCabFrame_broadcast (s := setCabRx .hunting s) low]
    unfold broadcastFrame
    rw [if_neg fun both => other.elim (fun h => h both.1) fun h => h both.2, setCabRx_hunting held]
  · rw [good, goodCabFrame_other (s := setCabRx .hunting s) own all, setCabRx_hunting held]

end Sys2Proof.Proofs
end

section
/-! The requests of the port, and what STATUS, READ_QUEUE and READ_TIE show (R138, R158, R187 to R192). -/

namespace Sys2Proof.Proofs

open Sys2Proof.Machine Sys2Proof.Safety Sys2Proof.Laws

variable {s : State} {op : Operation} {info : RunInfo} {l : LoopCtx}

/-! ## The port's hand (log 4) -/

theorem isRequest_iff (broadcast : Bool) (kind tag : Nat) (r : Received) :
    isRequest broadcast kind tag r = true ↔ r.broadcast = broadcast ∧ r.kind = kind ∧ r.tag = tag := by
  simp [isRequest, and_assoc]

theorem dropTaken_of_none {broadcast : Bool} {kind tag : Nat} {held : List Received}
    (other : ∀ x ∈ held, ¬ (x.broadcast = broadcast ∧ x.kind = kind ∧ x.tag = tag)) : dropTaken broadcast kind tag held = held :=
  List.eraseP_of_forall_not fun x hx => (isRequest_iff broadcast kind tag x).not.mpr (other x hx)

/-- The first request of the kind and tag is taken, wherever it stands. -/
theorem dropTaken_first {broadcast : Bool} {kind tag : Nat} {before : List Received}
    (other : ∀ x ∈ before, ¬ (x.broadcast = broadcast ∧ x.kind = kind ∧ x.tag = tag)) {r : Received}
    (same : r.broadcast = broadcast ∧ r.kind = kind ∧ r.tag = tag) (after : List Received) :
    dropTaken broadcast kind tag (before ++ r :: after) = before ++ after := by
  unfold dropTaken
  rw [List.eraseP_append_right _ fun x hx => (isRequest_iff broadcast kind tag x).not.mpr (other x hx),
    List.eraseP_cons_of_pos ((isRequest_iff broadcast kind tag r).mpr same)]

/-- Settles O47. -/
theorem portRequests : Obligations.PortRequests := by
  intro tag s
  refine ⟨fun q result contents => rfl,
    fun broadcast kind r before after other => ⟨dropTaken_of_none other,
      fun hb hk ht => dropTaken_first other ⟨hb, hk, ht⟩ after⟩,
    rfl, rfl, rfl, rfl, rfl, fun id c known => ?_, fun id outside => ?_, fun kind => rfl, fun r rest held => ?_,
    fun empty => ?_, fun mask => rfl, fun mask => rfl, rfl⟩
  · simp [exec, execGetConstant, known]
  · simp [exec, execGetConstant, constOfId_eq_none outside]
  · simp [exec, execPoll, held]
  · simp [exec, execPoll, empty]

/-! ## STATUS (R192) -/

theorem statusReply_op_eq (s : State) : (statusReply s).op = statusOp s := rfl

theorem statusOp_of_idle (idle : executing s = none) : (statusReply s).op = none := by
  rw [statusReply_op_eq, statusOp, idle]
  rfl

theorem statusOp_of_executing {rest : List Operation} (hops : s.oq.ops = op :: rest) (hop : op.state = .executing info) :
    (statusReply s).op
      = some { kind := kindOf op.params, tag := op.tag, state := .executing, startTime := info.startTime } := by
  have named : opStatus op.state = .executing := by rw [hop]; rfl
  rw [statusReply_op_eq, statusOp, executing_of_single hops hop, ← named]
  rfl

theorem statusLoopState_of_searching {dir : Direction} {level start flips : Nat} {due since : Time}
    (h : l.state = .searching dir level start due flips since) :
    (statusLoop l).state = .searching dir level start due flips := congrArg statusLoopState h

theorem statusLoop_target (l : LoopCtx) :
    (l.target = .absent ∨ l.target = .unlatched → (statusLoop l).target = none)
    ∧ (∀ d, l.target = .given d → (statusLoop l).target = some { depth := d, latched := false })
    ∧ (∀ d, l.target = .latched d → (statusLoop l).target = some { depth := d, latched := true }) :=
  ⟨fun h => h.elim (congrArg statusTarget) (congrArg statusTarget), fun _ h => congrArg statusTarget h,
    fun _ h => congrArg statusTarget h⟩

/-! ## READ_QUEUE (R158) -/

theorem queueReply_item {i : Nat} (h : s.oq.ops[i]? = some op) : (queueReply s).items[i]? = some (queueItem s i op) := by
  show (s.oq.ops.mapIdx fun i op => queueItem s i op)[i]? = _
  rw [List.getElem?_mapIdx, h]
  rfl

theorem queueItem_waiting (h : op.state = .waiting) (i : Nat) : (queueItem s i op).running = none := by
  unfold queueItem
  dsimp only
  rw [h]

theorem queueItem_executing (h : op.state = .executing info) (i : Nat) : (queueItem s i op).running
    = some (info.startTime, s.clock - info.startTime, queueDetail op.params info s) := by
  unfold queueItem
  dsimp only
  rw [h]

/-! ## Extremes (R138) -/

/-- The extremes of a list are its least and its greatest item, and their difference is its spread. -/
theorem extremesOf_spec {items : List Int} {least greatest : Int} (h : extremesOf items = some (least, greatest)) :
    least ∈ items ∧ greatest ∈ items ∧ (∀ x ∈ items, least ≤ x ∧ x ≤ greatest) ∧ spreadOf items = greatest - least := by
  cases items with
  | nil => cases h
  | cons x xs =>
    cases h
    obtain ⟨inMin, lower⟩ := List.min?_eq_some_iff.mp (List.min?_cons' (x := x) (xs := xs))
    obtain ⟨inMax, upper⟩ := List.max?_eq_some_iff.mp (List.max?_cons' (x := x) (xs := xs))
    exact ⟨inMin, inMax, fun y hy => ⟨lower y hy, upper y hy⟩, rfl⟩

/-- Settles O48. -/
theorem repliesThatShowThePart : Obligations.RepliesThatShowThePart := by
  refine ⟨fun s => ⟨rfl, fun idle => statusOp_of_idle idle, fun op rest info hops hop => ?_, fun loop => congrArg (Option.map statusLoop) loop,
      fun l loop => ⟨statusLoop l, congrArg (Option.map statusLoop) loop, rfl, congrArg statusLoopState, fun _ h => congrArg statusLoopState h,
        fun _ _ h => congrArg statusLoopState h, fun _ _ _ _ _ _ h => statusLoopState_of_searching h,
        fun _ h => congrArg statusLoopState h, statusLoop_target l⟩⟩,
    fun s => ⟨rfl, rfl, rfl, List.length_mapIdx, fun i op hop => ⟨_, queueReply_item hop, rfl,
      fun waits => queueItem_waiting waits i, fun info runs => ⟨_, queueItem_executing runs i, fun n k e c r hp hr => ?_,
        fun depth l hp hl => ?_, fun depth distance l hp hl => ?_, fun time due hp ht => ?_, fun hp real => ?_⟩⟩⟩,
    fun s => rfl, rfl, fun items least greatest h => extremesOf_spec h⟩
  · exact statusOp_of_executing hops hop
  · rw [hp, queueDetail, hr]
  · rw [hp, queueDetail, hl]
    rfl
  · rw [hp, queueDetail, hl]
    rfl
  · rw [hp, queueDetail, ht]
    rfl
  · rw [hp, queueDetail, strokeSeen, real]

end Sys2Proof.Proofs
end
